-- ==== Sys2Proof/Word.lean ====
section
/-! DEFINITION. The bit widths of the block: opcode bytes, enumeration codes, ROM words and cycle counts. -/

namespace Sys2Proof

/-- One byte: an opcode, or an operand byte of the host's instruction stream (R7). -/
abbrev Byte := BitVec 8

/-- A `Mnemonic` code: `MNEMONIC_W` = 7 bits (R6, R52). -/
abbrev MnemonicCode := BitVec 7

/-- An `AddressingMode` code: `MODE_W` = 4 bits (R6, R53). -/
abbrev ModeCode := BitVec 4

/-- A base cycle count as the ROM stores it: `BASE_CYC_W` = 4 bits (R6, R66). -/
abbrev BaseCycles := BitVec 4

/-- An encoded instruction length: 2 bits, values 1 to 3 (R61). -/
abbrev Length := BitVec 2

/-- A descriptor's `cycles` and the calculator's result: `CYC_W` = 64 bits (R6, R62). -/
abbrev Cycles := BitVec 64

/-- A ROM word: `ROM_WORD_W` = 15 bits (R6, R66). -/
abbrev RomWord := BitVec 15

/-- `zext_64` of R8 and R62: the stored base cycle count with zeros on the left. -/
def zext64 (v : BaseCycles) : Cycles := v.setWidth 64

end Sys2Proof
end

