-- ==== Sys2Proof/Config.lean ====
section
/-! DEFINITION. What an implementation fixes and the source leaves open (R6, R93). -/

namespace Sys2Proof.Config

/-- The parameter `SENTINEL_OPCODE` of R6 and R93: OPEN (D12, U7). A function of the input byte, the
same at every query, and nothing else is known of it. Log entry 6. -/
opaque sentinelOpcode : Byte → Byte

/-- What stands on `pen_result` while the host drives PEN with bit patterns that are no enumeration values and asks only
for a decode: no source defines it (R64, U6), so it is a free value, a function of PEN's four inputs (R19). Log entry
18. -/
opaque penOutsideDomain : MnemonicCode → ModeCode → Cycles → BitVec 1 → Cycles

/-- `N_MNEMONIC` (R6, R52). -/
def numMnemonics : Nat := 76

/-- The number of `AddressingMode` values (R6, R53). -/
def numModes : Nat := 13

/-- The number of table entries (R6, R25). -/
def tableSize : Nat := 256

end Sys2Proof.Config
end

