-- ==== Sys2Proof/Syntax.lean ====
section
/-! DEFINITION. The instructions: one constructor per row of spec/opcode_table.json, that is per opcode byte, named
by the row's mnemonic and its opcode in hexadecimal. An opcode has no fields (R50), so no constructor has one. -/

namespace Sys2Proof

/-- The 256 opcode-table rows (R25, R57). Rows of one mnemonic differ in the opcode byte, and mostly in the
addressing mode. -/
inductive Instr
  -- R120 LDA
  | ldaA1
  | ldaA5
  | ldaA9
  | ldaAD
  | ldaB1
  | ldaB5
  | ldaB9
  | ldaBD
  -- R121 LDX
  | ldxA2
  | ldxA6
  | ldxAE
  | ldxB6
  | ldxBE
  -- R122 LDY
  | ldyA0
  | ldyA4
  | ldyAC
  | ldyB4
  | ldyBC
  -- R123 STA
  | sta81
  | sta85
  | sta8D
  | sta91
  | sta95
  | sta99
  | sta9D
  -- R124 STX
  | stx86
  | stx8E
  | stx96
  -- R125 STY
  | sty84
  | sty8C
  | sty94
  -- R126 TAX
  | taxAA
  -- R127 TAY
  | tayA8
  -- R128 TSX
  | tsxBA
  -- R129 TXA
  | txa8A
  -- R130 TXS
  | txs9A
  -- R131 TYA
  | tya98
  -- R132 ADC
  | adc61
  | adc65
  | adc69
  | adc6D
  | adc71
  | adc75
  | adc79
  | adc7D
  -- R133 SBC
  | sbcE1
  | sbcE5
  | sbcE9
  | sbcEB
  | sbcED
  | sbcF1
  | sbcF5
  | sbcF9
  | sbcFD
  -- R134 AND
  | and21
  | and25
  | and29
  | and2D
  | and31
  | and35
  | and39
  | and3D
  -- R135 ORA
  | ora01
  | ora05
  | ora09
  | ora0D
  | ora11
  | ora15
  | ora19
  | ora1D
  -- R136 EOR
  | eor41
  | eor45
  | eor49
  | eor4D
  | eor51
  | eor55
  | eor59
  | eor5D
  -- R137 CMP
  | cmpC1
  | cmpC5
  | cmpC9
  | cmpCD
  | cmpD1
  | cmpD5
  | cmpD9
  | cmpDD
  -- R138 CPX
  | cpxE0
  | cpxE4
  | cpxEC
  -- R139 CPY
  | cpyC0
  | cpyC4
  | cpyCC
  -- R140 BIT
  | bit24
  | bit2C
  -- R141 INC
  | incE6
  | incEE
  | incF6
  | incFE
  -- R142 INX
  | inxE8
  -- R143 INY
  | inyC8
  -- R144 DEC
  | decC6
  | decCE
  | decD6
  | decDE
  -- R145 DEX
  | dexCA
  -- R146 DEY
  | dey88
  -- R147 ASL
  | asl06
  | asl0A
  | asl0E
  | asl16
  | asl1E
  -- R148 LSR
  | lsr46
  | lsr4A
  | lsr4E
  | lsr56
  | lsr5E
  -- R149 ROL
  | rol26
  | rol2A
  | rol2E
  | rol36
  | rol3E
  -- R150 ROR
  | ror66
  | ror6A
  | ror6E
  | ror76
  | ror7E
  -- R151 BCC
  | bcc90
  -- R152 BCS
  | bcsB0
  -- R153 BEQ
  | beqF0
  -- R154 BMI
  | bmi30
  -- R155 BNE
  | bneD0
  -- R156 BPL
  | bpl10
  -- R157 BVC
  | bvc50
  -- R158 BVS
  | bvs70
  -- R159 JMP
  | jmp4C
  | jmp6C
  -- R160 JSR
  | jsr20
  -- R161 RTS
  | rts60
  -- R162 RTI
  | rti40
  -- R163 BRK
  | brk00
  -- R164 PHA
  | pha48
  -- R165 PHP
  | php08
  -- R166 PLA
  | pla68
  -- R167 PLP
  | plp28
  -- R168 CLC
  | clc18
  -- R169 CLD
  | cldD8
  -- R170 CLI
  | cli58
  -- R171 CLV
  | clvB8
  -- R172 SEC
  | sec38
  -- R173 SED
  | sedF8
  -- R174 SEI
  | sei78
  -- R175 NOP
  | nop04
  | nop0C
  | nop14
  | nop1A
  | nop1C
  | nop34
  | nop3A
  | nop3C
  | nop44
  | nop54
  | nop5A
  | nop5C
  | nop64
  | nop74
  | nop7A
  | nop7C
  | nop80
  | nop82
  | nop89
  | nopC2
  | nopD4
  | nopDA
  | nopDC
  | nopE2
  | nopEA
  | nopF4
  | nopFA
  | nopFC
  -- R176 ALR
  | alr4B
  -- R177 ANC
  | anc0B
  | anc2B
  -- R178 ANE
  | ane8B
  -- R179 ARR
  | arr6B
  -- R180 DCP
  | dcpC3
  | dcpC7
  | dcpCF
  | dcpD3
  | dcpD7
  | dcpDB
  | dcpDF
  -- R181 ISC
  | iscE3
  | iscE7
  | iscEF
  | iscF3
  | iscF7
  | iscFB
  | iscFF
  -- R182 JAM
  | jam02
  | jam12
  | jam22
  | jam32
  | jam42
  | jam52
  | jam62
  | jam72
  | jam92
  | jamB2
  | jamD2
  | jamF2
  -- R183 LAS
  | lasBB
  -- R184 LAX
  | laxA3
  | laxA7
  | laxAF
  | laxB3
  | laxB7
  | laxBF
  -- R185 LXA
  | lxaAB
  -- R186 RLA
  | rla23
  | rla27
  | rla2F
  | rla33
  | rla37
  | rla3B
  | rla3F
  -- R187 RRA
  | rra63
  | rra67
  | rra6F
  | rra73
  | rra77
  | rra7B
  | rra7F
  -- R188 SAX
  | sax83
  | sax87
  | sax8F
  | sax97
  -- R189 SBX
  | sbxCB
  -- R190 SHA
  | sha93
  | sha9F
  -- R191 SHX
  | shx9E
  -- R192 SHY
  | shy9C
  -- R193 SLO
  | slo03
  | slo07
  | slo0F
  | slo13
  | slo17
  | slo1B
  | slo1F
  -- R194 SRE
  | sre43
  | sre47
  | sre4F
  | sre53
  | sre57
  | sre5B
  | sre5F
  -- R195 TAS
  | tas9B
deriving DecidableEq, Repr

end Sys2Proof
end

