-- ==== Sys2Proof/Machine/Taxonomy.lean ====
section
/-! DEFINITION. The closed enumerations with their bit codes (R9, R52 to R55), the table entry (R10), the instruction
descriptor (R60) and an instruction's bytes (R50). The names are spelled as the spec spells them (R73). -/

namespace Sys2Proof.Machine

/-- `Mnemonic`, R52: 56 official values, then the 20 undocumented ones. -/
inductive Mnemonic
  | ADC | AND | ASL | BCC | BCS | BEQ | BIT | BMI | BNE | BPL | BRK | BVC | BVS | CLC
  | CLD | CLI | CLV | CMP | CPX | CPY | DEC | DEX | DEY | EOR | INC | INX | INY | JMP
  | JSR | LDA | LDX | LDY | LSR | NOP | ORA | PHA | PHP | PLA | PLP | ROL | ROR | RTI
  | RTS | SBC | SEC | SED | SEI | STA | STX | STY | TAX | TAY | TSX | TXA | TXS | TYA
  | ALR | ANC | ANE | ARR | DCP | ISC | JAM | LAS | LAX | LXA | RLA | RRA | SAX | SBX
  | SHA | SHX | SHY | SLO | SRE | TAS
deriving DecidableEq, Repr

/-- `AddressingMode`, R53, in the source's order. -/
inductive AddressingMode
  | Absolute | AbsoluteX | AbsoluteY | Accumulator | Immediate | Implied | Indirect
  | IndirectX | IndirectY | Relative | ZeroPage | ZeroPageX | ZeroPageY
deriving DecidableEq, Repr

/-- `InstructionSet`, R54: a mnemonic's class, and the legality mode a host requests. -/
inductive InstructionSet
  | STANDARD | NMOS
deriving DecidableEq, Repr

/-- `PageBoundary`, R55. -/
inductive PageBoundary
  | SAME | CROSSED
deriving DecidableEq, Repr

/-- The three cases of the penalty calculator (R101). -/
inductive PenaltyClass
  | BRANCH | INDEXED_READ | NONE
deriving DecidableEq, Repr

/-- One table entry: what the lookup yields (R10, R66, C3). -/
structure Entry where
  mnemonic   : Mnemonic
  mode       : AddressingMode
  baseCycles : BaseCycles
deriving DecidableEq, Repr

/-- The instruction descriptor, an immutable value of six fields (R60). -/
structure Descriptor where
  opcode         : Byte
  mnemonic       : Mnemonic
  mode           : AddressingMode
  length         : Length
  cycles         : Cycles
  instructionSet : InstructionSet
deriving DecidableEq, Repr

/-- An instruction as the host's instruction stream holds it (R27, R50): an opcode, and the operand bytes that
follow it, which the block never sees. -/
structure InstrBytes where
  instr    : Instr
  operands : List Byte
deriving DecidableEq, Repr

/-- The mnemonics in the order of their codes (R52). -/
def mnemonicsByCode : List Mnemonic :=
  [.ADC, .AND, .ASL, .BCC, .BCS, .BEQ, .BIT, .BMI, .BNE, .BPL, .BRK, .BVC, .BVS, .CLC, .CLD, .CLI,
   .CLV, .CMP, .CPX, .CPY, .DEC, .DEX, .DEY, .EOR, .INC, .INX, .INY, .JMP, .JSR, .LDA, .LDX, .LDY,
   .LSR, .NOP, .ORA, .PHA, .PHP, .PLA, .PLP, .ROL, .ROR, .RTI, .RTS, .SBC, .SEC, .SED, .SEI, .STA,
   .STX, .STY, .TAX, .TAY, .TSX, .TXA, .TXS, .TYA, .ALR, .ANC, .ANE, .ARR, .DCP, .ISC, .JAM, .LAS,
   .LAX, .LXA, .RLA, .RRA, .SAX, .SBX, .SHA, .SHX, .SHY, .SLO, .SRE, .TAS]

/-- The addressing modes in the order of their codes (R53). -/
def modesByCode : List AddressingMode :=
  [.Absolute, .AbsoluteX, .AbsoluteY, .Accumulator, .Immediate, .Implied, .Indirect, .IndirectX,
   .IndirectY, .Relative, .ZeroPage, .ZeroPageX, .ZeroPageY]

/-- The 7-bit code of a mnemonic (R52). -/
def Mnemonic.code : Mnemonic → MnemonicCode
  | .ADC => 0 | .AND => 1 | .ASL => 2 | .BCC => 3
  | .BCS => 4 | .BEQ => 5 | .BIT => 6 | .BMI => 7
  | .BNE => 8 | .BPL => 9 | .BRK => 10 | .BVC => 11
  | .BVS => 12 | .CLC => 13 | .CLD => 14 | .CLI => 15
  | .CLV => 16 | .CMP => 17 | .CPX => 18 | .CPY => 19
  | .DEC => 20 | .DEX => 21 | .DEY => 22 | .EOR => 23
  | .INC => 24 | .INX => 25 | .INY => 26 | .JMP => 27
  | .JSR => 28 | .LDA => 29 | .LDX => 30 | .LDY => 31
  | .LSR => 32 | .NOP => 33 | .ORA => 34 | .PHA => 35
  | .PHP => 36 | .PLA => 37 | .PLP => 38 | .ROL => 39
  | .ROR => 40 | .RTI => 41 | .RTS => 42 | .SBC => 43
  | .SEC => 44 | .SED => 45 | .SEI => 46 | .STA => 47
  | .STX => 48 | .STY => 49 | .TAX => 50 | .TAY => 51
  | .TSX => 52 | .TXA => 53 | .TXS => 54 | .TYA => 55
  | .ALR => 56 | .ANC => 57 | .ANE => 58 | .ARR => 59
  | .DCP => 60 | .ISC => 61 | .JAM => 62 | .LAS => 63
  | .LAX => 64 | .LXA => 65 | .RLA => 66 | .RRA => 67
  | .SAX => 68 | .SBX => 69 | .SHA => 70 | .SHX => 71
  | .SHY => 72 | .SLO => 73 | .SRE => 74 | .TAS => 75

/-- The mnemonic of a 7-bit code; codes 76 to 127 denote nothing (R52, R64). -/
def Mnemonic.ofCode (c : MnemonicCode) : Option Mnemonic := mnemonicsByCode[c.toNat]?

/-- The 4-bit code of an addressing mode (R53). -/
def AddressingMode.code : AddressingMode → ModeCode
  | .Absolute => 0 | .AbsoluteX => 1 | .AbsoluteY => 2 | .Accumulator => 3
  | .Immediate => 4 | .Implied => 5 | .Indirect => 6 | .IndirectX => 7
  | .IndirectY => 8 | .Relative => 9 | .ZeroPage => 10 | .ZeroPageX => 11
  | .ZeroPageY => 12

/-- The addressing mode of a 4-bit code; codes 13 to 15 denote nothing (R53, R64). -/
def AddressingMode.ofCode (c : ModeCode) : Option AddressingMode := modesByCode[c.toNat]?

/-- The code of an instruction set (R54). -/
def InstructionSet.code : InstructionSet → BitVec 1
  | .STANDARD => 0
  | .NMOS     => 1

/-- The instruction set of a 1-bit code; both codes are values (R54). -/
def InstructionSet.ofCode (c : BitVec 1) : InstructionSet := if c = 0 then .STANDARD else .NMOS

/-- The other of the two instruction sets. -/
def InstructionSet.other : InstructionSet → InstructionSet
  | .STANDARD => .NMOS
  | .NMOS     => .STANDARD

/-- The code of a page relation (R55). -/
def PageBoundary.code : PageBoundary → BitVec 1
  | .SAME    => 0
  | .CROSSED => 1

/-- The page relation of a 1-bit code; both codes are values (R55). -/
def PageBoundary.ofCode (c : BitVec 1) : PageBoundary := if c = 0 then .SAME else .CROSSED

end Sys2Proof.Machine
end

