-- ==== Sys2Proof/Machine/Flags.lean ====
section
/-! DEFINITION. The block has no status flag (R14). Its one derived status bit is the instruction-set class of
a mnemonic (R83, R84), computed here. -/

namespace Sys2Proof.Machine

/-- The 20 undocumented mnemonics, in the source's order (R83). -/
def undocumentedMnemonics : List Mnemonic :=
  [.ALR, .ANC, .ANE, .ARR, .DCP, .ISC, .JAM, .LAS, .LAX, .LXA,
   .RLA, .RRA, .SAX, .SBX, .SHA, .SHX, .SHY, .SLO, .SRE, .TAS]

/-- `classify`, R83: the listed mnemonics are `NMOS`, every other mnemonic is `STANDARD`. -/
def classify (m : Mnemonic) : InstructionSet :=
  if m ∈ undocumentedMnemonics then .NMOS else .STANDARD

/-- R84: `classify` on mnemonic codes, the single comparison `code >= 56`. -/
def classBit (c : MnemonicCode) : BitVec 1 := if 56 ≤ c then 1 else 0

/-- R84: the same bit as `code[6] or (code[5] and code[4] and code[3])`. -/
def classBitGates (c : MnemonicCode) : Bool :=
  c.getLsbD 6 || (c.getLsbD 5 && c.getLsbD 4 && c.getLsbD 3)

end Sys2Proof.Machine
end

