-- ==== Sys2Proof/Machine/Operands.lean ====
section
/-! DEFINITION. What the block says of an instruction's operands: the encoded length, by addressing mode
(R80 to R82). The block assembles no operand itself (R56). -/

namespace Sys2Proof.Machine

/-- `instruction_length`, R81: the encoded size in bytes, the opcode byte included. -/
def instructionLength : AddressingMode → Length
  | .Accumulator => 1
  | .Implied     => 1
  | .Immediate   => 2
  | .Relative    => 2
  | .ZeroPage    => 2
  | .ZeroPageX   => 2
  | .ZeroPageY   => 2
  | .IndirectX   => 2
  | .IndirectY   => 2
  | .Absolute    => 3
  | .AbsoluteX   => 3
  | .AbsoluteY   => 3
  | .Indirect    => 3

/-- R56, R82: the number of operand bytes the host fetches after the opcode byte. -/
def operandByteCount (m : AddressingMode) : Nat := (instructionLength m).toNat - 1

/-- R80 at the bit level, a 4-bit to 2-bit function. For the codes 13 to 15, which are no modes, R81 gives no length;
the answer 0, the length code that denotes nothing (R64), is the model's own (DESIGN CHOICE, log entry 19). Unit DEC
never presents such a code. -/
def lengthOfModeCode (c : ModeCode) : Length :=
  match AddressingMode.ofCode c with
  | some m => instructionLength m
  | none   => 0

end Sys2Proof.Machine
end

