-- ==== Sys2Proof/Machine/Rom.lean ====
section
/-! DEFINITION. The decode table `TABLE` (R10, R58) and the ROM it is stored in (R66, R70): a constant, never written
(R29, R222; log entry 1). The entries are the published NMOS 6502 matrix, which the spec supplies (D1 to D3; log
entry 2). -/

namespace Sys2Proof.Machine

/-- Row 0x of the matrix of R58. -/
def tableRow0 : Vector Entry 16 :=
  #v[⟨.BRK, .Implied, 7⟩, ⟨.ORA, .IndirectX, 6⟩, ⟨.JAM, .Implied, 0⟩, ⟨.SLO, .IndirectX, 8⟩,
   ⟨.NOP, .ZeroPage, 3⟩, ⟨.ORA, .ZeroPage, 3⟩, ⟨.ASL, .ZeroPage, 5⟩, ⟨.SLO, .ZeroPage, 5⟩,
   ⟨.PHP, .Implied, 3⟩, ⟨.ORA, .Immediate, 2⟩, ⟨.ASL, .Accumulator, 2⟩, ⟨.ANC, .Immediate, 2⟩,
   ⟨.NOP, .Absolute, 4⟩, ⟨.ORA, .Absolute, 4⟩, ⟨.ASL, .Absolute, 6⟩, ⟨.SLO, .Absolute, 6⟩]

/-- Row 1x of the matrix of R58. -/
def tableRow1 : Vector Entry 16 :=
  #v[⟨.BPL, .Relative, 2⟩, ⟨.ORA, .IndirectY, 5⟩, ⟨.JAM, .Implied, 0⟩, ⟨.SLO, .IndirectY, 8⟩,
   ⟨.NOP, .ZeroPageX, 4⟩, ⟨.ORA, .ZeroPageX, 4⟩, ⟨.ASL, .ZeroPageX, 6⟩, ⟨.SLO, .ZeroPageX, 6⟩,
   ⟨.CLC, .Implied, 2⟩, ⟨.ORA, .AbsoluteY, 4⟩, ⟨.NOP, .Implied, 2⟩, ⟨.SLO, .AbsoluteY, 7⟩,
   ⟨.NOP, .AbsoluteX, 4⟩, ⟨.ORA, .AbsoluteX, 4⟩, ⟨.ASL, .AbsoluteX, 7⟩, ⟨.SLO, .AbsoluteX, 7⟩]

/-- Row 2x of the matrix of R58. -/
def tableRow2 : Vector Entry 16 :=
  #v[⟨.JSR, .Absolute, 6⟩, ⟨.AND, .IndirectX, 6⟩, ⟨.JAM, .Implied, 0⟩, ⟨.RLA, .IndirectX, 8⟩,
   ⟨.BIT, .ZeroPage, 3⟩, ⟨.AND, .ZeroPage, 3⟩, ⟨.ROL, .ZeroPage, 5⟩, ⟨.RLA, .ZeroPage, 5⟩,
   ⟨.PLP, .Implied, 4⟩, ⟨.AND, .Immediate, 2⟩, ⟨.ROL, .Accumulator, 2⟩, ⟨.ANC, .Immediate, 2⟩,
   ⟨.BIT, .Absolute, 4⟩, ⟨.AND, .Absolute, 4⟩, ⟨.ROL, .Absolute, 6⟩, ⟨.RLA, .Absolute, 6⟩]

/-- Row 3x of the matrix of R58. -/
def tableRow3 : Vector Entry 16 :=
  #v[⟨.BMI, .Relative, 2⟩, ⟨.AND, .IndirectY, 5⟩, ⟨.JAM, .Implied, 0⟩, ⟨.RLA, .IndirectY, 8⟩,
   ⟨.NOP, .ZeroPageX, 4⟩, ⟨.AND, .ZeroPageX, 4⟩, ⟨.ROL, .ZeroPageX, 6⟩, ⟨.RLA, .ZeroPageX, 6⟩,
   ⟨.SEC, .Implied, 2⟩, ⟨.AND, .AbsoluteY, 4⟩, ⟨.NOP, .Implied, 2⟩, ⟨.RLA, .AbsoluteY, 7⟩,
   ⟨.NOP, .AbsoluteX, 4⟩, ⟨.AND, .AbsoluteX, 4⟩, ⟨.ROL, .AbsoluteX, 7⟩, ⟨.RLA, .AbsoluteX, 7⟩]

/-- Row 4x of the matrix of R58. -/
def tableRow4 : Vector Entry 16 :=
  #v[⟨.RTI, .Implied, 6⟩, ⟨.EOR, .IndirectX, 6⟩, ⟨.JAM, .Implied, 0⟩, ⟨.SRE, .IndirectX, 8⟩,
   ⟨.NOP, .ZeroPage, 3⟩, ⟨.EOR, .ZeroPage, 3⟩, ⟨.LSR, .ZeroPage, 5⟩, ⟨.SRE, .ZeroPage, 5⟩,
   ⟨.PHA, .Implied, 3⟩, ⟨.EOR, .Immediate, 2⟩, ⟨.LSR, .Accumulator, 2⟩, ⟨.ALR, .Immediate, 2⟩,
   ⟨.JMP, .Absolute, 3⟩, ⟨.EOR, .Absolute, 4⟩, ⟨.LSR, .Absolute, 6⟩, ⟨.SRE, .Absolute, 6⟩]

/-- Row 5x of the matrix of R58. -/
def tableRow5 : Vector Entry 16 :=
  #v[⟨.BVC, .Relative, 2⟩, ⟨.EOR, .IndirectY, 5⟩, ⟨.JAM, .Implied, 0⟩, ⟨.SRE, .IndirectY, 8⟩,
   ⟨.NOP, .ZeroPageX, 4⟩, ⟨.EOR, .ZeroPageX, 4⟩, ⟨.LSR, .ZeroPageX, 6⟩, ⟨.SRE, .ZeroPageX, 6⟩,
   ⟨.CLI, .Implied, 2⟩, ⟨.EOR, .AbsoluteY, 4⟩, ⟨.NOP, .Implied, 2⟩, ⟨.SRE, .AbsoluteY, 7⟩,
   ⟨.NOP, .AbsoluteX, 4⟩, ⟨.EOR, .AbsoluteX, 4⟩, ⟨.LSR, .AbsoluteX, 7⟩, ⟨.SRE, .AbsoluteX, 7⟩]

/-- Row 6x of the matrix of R58. -/
def tableRow6 : Vector Entry 16 :=
  #v[⟨.RTS, .Implied, 6⟩, ⟨.ADC, .IndirectX, 6⟩, ⟨.JAM, .Implied, 0⟩, ⟨.RRA, .IndirectX, 8⟩,
   ⟨.NOP, .ZeroPage, 3⟩, ⟨.ADC, .ZeroPage, 3⟩, ⟨.ROR, .ZeroPage, 5⟩, ⟨.RRA, .ZeroPage, 5⟩,
   ⟨.PLA, .Implied, 4⟩, ⟨.ADC, .Immediate, 2⟩, ⟨.ROR, .Accumulator, 2⟩, ⟨.ARR, .Immediate, 2⟩,
   ⟨.JMP, .Indirect, 5⟩, ⟨.ADC, .Absolute, 4⟩, ⟨.ROR, .Absolute, 6⟩, ⟨.RRA, .Absolute, 6⟩]

/-- Row 7x of the matrix of R58. -/
def tableRow7 : Vector Entry 16 :=
  #v[⟨.BVS, .Relative, 2⟩, ⟨.ADC, .IndirectY, 5⟩, ⟨.JAM, .Implied, 0⟩, ⟨.RRA, .IndirectY, 8⟩,
   ⟨.NOP, .ZeroPageX, 4⟩, ⟨.ADC, .ZeroPageX, 4⟩, ⟨.ROR, .ZeroPageX, 6⟩, ⟨.RRA, .ZeroPageX, 6⟩,
   ⟨.SEI, .Implied, 2⟩, ⟨.ADC, .AbsoluteY, 4⟩, ⟨.NOP, .Implied, 2⟩, ⟨.RRA, .AbsoluteY, 7⟩,
   ⟨.NOP, .AbsoluteX, 4⟩, ⟨.ADC, .AbsoluteX, 4⟩, ⟨.ROR, .AbsoluteX, 7⟩, ⟨.RRA, .AbsoluteX, 7⟩]

/-- Row 8x of the matrix of R58. -/
def tableRow8 : Vector Entry 16 :=
  #v[⟨.NOP, .Immediate, 2⟩, ⟨.STA, .IndirectX, 6⟩, ⟨.NOP, .Immediate, 2⟩, ⟨.SAX, .IndirectX, 6⟩,
   ⟨.STY, .ZeroPage, 3⟩, ⟨.STA, .ZeroPage, 3⟩, ⟨.STX, .ZeroPage, 3⟩, ⟨.SAX, .ZeroPage, 3⟩,
   ⟨.DEY, .Implied, 2⟩, ⟨.NOP, .Immediate, 2⟩, ⟨.TXA, .Implied, 2⟩, ⟨.ANE, .Immediate, 2⟩,
   ⟨.STY, .Absolute, 4⟩, ⟨.STA, .Absolute, 4⟩, ⟨.STX, .Absolute, 4⟩, ⟨.SAX, .Absolute, 4⟩]

/-- Row 9x of the matrix of R58. -/
def tableRow9 : Vector Entry 16 :=
  #v[⟨.BCC, .Relative, 2⟩, ⟨.STA, .IndirectY, 6⟩, ⟨.JAM, .Implied, 0⟩, ⟨.SHA, .IndirectY, 6⟩,
   ⟨.STY, .ZeroPageX, 4⟩, ⟨.STA, .ZeroPageX, 4⟩, ⟨.STX, .ZeroPageY, 4⟩, ⟨.SAX, .ZeroPageY, 4⟩,
   ⟨.TYA, .Implied, 2⟩, ⟨.STA, .AbsoluteY, 5⟩, ⟨.TXS, .Implied, 2⟩, ⟨.TAS, .AbsoluteY, 5⟩,
   ⟨.SHY, .AbsoluteX, 5⟩, ⟨.STA, .AbsoluteX, 5⟩, ⟨.SHX, .AbsoluteY, 5⟩, ⟨.SHA, .AbsoluteY, 5⟩]

/-- Row Ax of the matrix of R58. -/
def tableRowA : Vector Entry 16 :=
  #v[⟨.LDY, .Immediate, 2⟩, ⟨.LDA, .IndirectX, 6⟩, ⟨.LDX, .Immediate, 2⟩, ⟨.LAX, .IndirectX, 6⟩,
   ⟨.LDY, .ZeroPage, 3⟩, ⟨.LDA, .ZeroPage, 3⟩, ⟨.LDX, .ZeroPage, 3⟩, ⟨.LAX, .ZeroPage, 3⟩,
   ⟨.TAY, .Implied, 2⟩, ⟨.LDA, .Immediate, 2⟩, ⟨.TAX, .Implied, 2⟩, ⟨.LXA, .Immediate, 2⟩,
   ⟨.LDY, .Absolute, 4⟩, ⟨.LDA, .Absolute, 4⟩, ⟨.LDX, .Absolute, 4⟩, ⟨.LAX, .Absolute, 4⟩]

/-- Row Bx of the matrix of R58. -/
def tableRowB : Vector Entry 16 :=
  #v[⟨.BCS, .Relative, 2⟩, ⟨.LDA, .IndirectY, 5⟩, ⟨.JAM, .Implied, 0⟩, ⟨.LAX, .IndirectY, 5⟩,
   ⟨.LDY, .ZeroPageX, 4⟩, ⟨.LDA, .ZeroPageX, 4⟩, ⟨.LDX, .ZeroPageY, 4⟩, ⟨.LAX, .ZeroPageY, 4⟩,
   ⟨.CLV, .Implied, 2⟩, ⟨.LDA, .AbsoluteY, 4⟩, ⟨.TSX, .Implied, 2⟩, ⟨.LAS, .AbsoluteY, 4⟩,
   ⟨.LDY, .AbsoluteX, 4⟩, ⟨.LDA, .AbsoluteX, 4⟩, ⟨.LDX, .AbsoluteY, 4⟩, ⟨.LAX, .AbsoluteY, 4⟩]

/-- Row Cx of the matrix of R58. -/
def tableRowC : Vector Entry 16 :=
  #v[⟨.CPY, .Immediate, 2⟩, ⟨.CMP, .IndirectX, 6⟩, ⟨.NOP, .Immediate, 2⟩, ⟨.DCP, .IndirectX, 8⟩,
   ⟨.CPY, .ZeroPage, 3⟩, ⟨.CMP, .ZeroPage, 3⟩, ⟨.DEC, .ZeroPage, 5⟩, ⟨.DCP, .ZeroPage, 5⟩,
   ⟨.INY, .Implied, 2⟩, ⟨.CMP, .Immediate, 2⟩, ⟨.DEX, .Implied, 2⟩, ⟨.SBX, .Immediate, 2⟩,
   ⟨.CPY, .Absolute, 4⟩, ⟨.CMP, .Absolute, 4⟩, ⟨.DEC, .Absolute, 6⟩, ⟨.DCP, .Absolute, 6⟩]

/-- Row Dx of the matrix of R58. -/
def tableRowD : Vector Entry 16 :=
  #v[⟨.BNE, .Relative, 2⟩, ⟨.CMP, .IndirectY, 5⟩, ⟨.JAM, .Implied, 0⟩, ⟨.DCP, .IndirectY, 8⟩,
   ⟨.NOP, .ZeroPageX, 4⟩, ⟨.CMP, .ZeroPageX, 4⟩, ⟨.DEC, .ZeroPageX, 6⟩, ⟨.DCP, .ZeroPageX, 6⟩,
   ⟨.CLD, .Implied, 2⟩, ⟨.CMP, .AbsoluteY, 4⟩, ⟨.NOP, .Implied, 2⟩, ⟨.DCP, .AbsoluteY, 7⟩,
   ⟨.NOP, .AbsoluteX, 4⟩, ⟨.CMP, .AbsoluteX, 4⟩, ⟨.DEC, .AbsoluteX, 7⟩, ⟨.DCP, .AbsoluteX, 7⟩]

/-- Row Ex of the matrix of R58. -/
def tableRowE : Vector Entry 16 :=
  #v[⟨.CPX, .Immediate, 2⟩, ⟨.SBC, .IndirectX, 6⟩, ⟨.NOP, .Immediate, 2⟩, ⟨.ISC, .IndirectX, 8⟩,
   ⟨.CPX, .ZeroPage, 3⟩, ⟨.SBC, .ZeroPage, 3⟩, ⟨.INC, .ZeroPage, 5⟩, ⟨.ISC, .ZeroPage, 5⟩,
   ⟨.INX, .Implied, 2⟩, ⟨.SBC, .Immediate, 2⟩, ⟨.NOP, .Implied, 2⟩, ⟨.SBC, .Immediate, 2⟩,
   ⟨.CPX, .Absolute, 4⟩, ⟨.SBC, .Absolute, 4⟩, ⟨.INC, .Absolute, 6⟩, ⟨.ISC, .Absolute, 6⟩]

/-- Row Fx of the matrix of R58. -/
def tableRowF : Vector Entry 16 :=
  #v[⟨.BEQ, .Relative, 2⟩, ⟨.SBC, .IndirectY, 5⟩, ⟨.JAM, .Implied, 0⟩, ⟨.ISC, .IndirectY, 8⟩,
   ⟨.NOP, .ZeroPageX, 4⟩, ⟨.SBC, .ZeroPageX, 4⟩, ⟨.INC, .ZeroPageX, 6⟩, ⟨.ISC, .ZeroPageX, 6⟩,
   ⟨.SED, .Implied, 2⟩, ⟨.SBC, .AbsoluteY, 4⟩, ⟨.NOP, .Implied, 2⟩, ⟨.ISC, .AbsoluteY, 7⟩,
   ⟨.NOP, .AbsoluteX, 4⟩, ⟨.SBC, .AbsoluteX, 4⟩, ⟨.INC, .AbsoluteX, 7⟩, ⟨.ISC, .AbsoluteX, 7⟩]

/-- The matrix of R58: row = high nibble of the opcode, column = low nibble. -/
def tableRows : Vector (Vector Entry 16) 16 :=
  #v[tableRow0, tableRow1, tableRow2, tableRow3, tableRow4, tableRow5, tableRow6, tableRow7,
   tableRow8, tableRow9, tableRowA, tableRowB, tableRowC, tableRowD, tableRowE, tableRowF]

/-- `TABLE[b]`: total, no byte is unmapped (R25, R30, C2). -/
def table (b : Byte) : Entry := (tableRows[b.toNat / 16]'(by omega))[b.toNat % 16]'(by omega)

/-- The ROM word of an entry: `word[14:8]` mnemonic code, `word[7:4]` mode code, `word[3:0]` base cycles (R66). -/
def romWord (e : Entry) : RomWord := e.mnemonic.code ++ e.mode.code ++ e.baseCycles

/-- `word[14:8]` (R66). -/
def wordMnemonic (w : RomWord) : MnemonicCode := w.extractLsb' 8 7

/-- `word[7:4]` (R66). -/
def wordMode (w : RomWord) : ModeCode := w.extractLsb' 4 4

/-- `word[3:0]` (R66). -/
def wordBase (w : RomWord) : BaseCycles := w.extractLsb' 0 4

/-- The entry a ROM word stands for; none where a code denotes nothing (R64, R66). -/
def entryOfWord (w : RomWord) : Option Entry :=
  match Mnemonic.ofCode (wordMnemonic w), AddressingMode.ofCode (wordMode w) with
  | some m, some a => some ⟨m, a, wordBase w⟩
  | _, _           => none

/-- Line 00 of the ROM image of R70, as printed. -/
def imageRow0 : Vector RomWord 16 :=
  #v[0x0A57, 0x2276, 0x3E50, 0x4978, 0x21A3, 0x22A3, 0x02A5, 0x49A5, 0x2453, 0x2242, 0x0232, 0x3942,
   0x2104, 0x2204, 0x0206, 0x4906]

/-- Line 10 of the ROM image of R70, as printed. -/
def imageRow1 : Vector RomWord 16 :=
  #v[0x0992, 0x2285, 0x3E50, 0x4988, 0x21B4, 0x22B4, 0x02B6, 0x49B6, 0x0D52, 0x2224, 0x2152, 0x4927,
   0x2114, 0x2214, 0x0217, 0x4917]

/-- Line 20 of the ROM image of R70, as printed. -/
def imageRow2 : Vector RomWord 16 :=
  #v[0x1C06, 0x0176, 0x3E50, 0x4278, 0x06A3, 0x01A3, 0x27A5, 0x42A5, 0x2654, 0x0142, 0x2732, 0x3942,
   0x0604, 0x0104, 0x2706, 0x4206]

/-- Line 30 of the ROM image of R70, as printed. -/
def imageRow3 : Vector RomWord 16 :=
  #v[0x0792, 0x0185, 0x3E50, 0x4288, 0x21B4, 0x01B4, 0x27B6, 0x42B6, 0x2C52, 0x0124, 0x2152, 0x4227,
   0x2114, 0x0114, 0x2717, 0x4217]

/-- Line 40 of the ROM image of R70, as printed. -/
def imageRow4 : Vector RomWord 16 :=
  #v[0x2956, 0x1776, 0x3E50, 0x4A78, 0x21A3, 0x17A3, 0x20A5, 0x4AA5, 0x2353, 0x1742, 0x2032, 0x3842,
   0x1B03, 0x1704, 0x2006, 0x4A06]

/-- Line 50 of the ROM image of R70, as printed. -/
def imageRow5 : Vector RomWord 16 :=
  #v[0x0B92, 0x1785, 0x3E50, 0x4A88, 0x21B4, 0x17B4, 0x20B6, 0x4AB6, 0x0F52, 0x1724, 0x2152, 0x4A27,
   0x2114, 0x1714, 0x2017, 0x4A17]

/-- Line 60 of the ROM image of R70, as printed. -/
def imageRow6 : Vector RomWord 16 :=
  #v[0x2A56, 0x0076, 0x3E50, 0x4378, 0x21A3, 0x00A3, 0x28A5, 0x43A5, 0x2554, 0x0042, 0x2832, 0x3B42,
   0x1B65, 0x0004, 0x2806, 0x4306]

/-- Line 70 of the ROM image of R70, as printed. -/
def imageRow7 : Vector RomWord 16 :=
  #v[0x0C92, 0x0085, 0x3E50, 0x4388, 0x21B4, 0x00B4, 0x28B6, 0x43B6, 0x2E52, 0x0024, 0x2152, 0x4327,
   0x2114, 0x0014, 0x2817, 0x4317]

/-- Line 80 of the ROM image of R70, as printed. -/
def imageRow8 : Vector RomWord 16 :=
  #v[0x2142, 0x2F76, 0x2142, 0x4476, 0x31A3, 0x2FA3, 0x30A3, 0x44A3, 0x1652, 0x2142, 0x3552, 0x3A42,
   0x3104, 0x2F04, 0x3004, 0x4404]

/-- Line 90 of the ROM image of R70, as printed. -/
def imageRow9 : Vector RomWord 16 :=
  #v[0x0392, 0x2F86, 0x3E50, 0x4686, 0x31B4, 0x2FB4, 0x30C4, 0x44C4, 0x3752, 0x2F25, 0x3652, 0x4B25,
   0x4815, 0x2F15, 0x4725, 0x4625]

/-- Line A0 of the ROM image of R70, as printed. -/
def imageRowA : Vector RomWord 16 :=
  #v[0x1F42, 0x1D76, 0x1E42, 0x4076, 0x1FA3, 0x1DA3, 0x1EA3, 0x40A3, 0x3352, 0x1D42, 0x3252, 0x4142,
   0x1F04, 0x1D04, 0x1E04, 0x4004]

/-- Line B0 of the ROM image of R70, as printed. -/
def imageRowB : Vector RomWord 16 :=
  #v[0x0492, 0x1D85, 0x3E50, 0x4085, 0x1FB4, 0x1DB4, 0x1EC4, 0x40C4, 0x1052, 0x1D24, 0x3452, 0x3F24,
   0x1F14, 0x1D14, 0x1E24, 0x4024]

/-- Line C0 of the ROM image of R70, as printed. -/
def imageRowC : Vector RomWord 16 :=
  #v[0x1342, 0x1176, 0x2142, 0x3C78, 0x13A3, 0x11A3, 0x14A5, 0x3CA5, 0x1A52, 0x1142, 0x1552, 0x4542,
   0x1304, 0x1104, 0x1406, 0x3C06]

/-- Line D0 of the ROM image of R70, as printed. -/
def imageRowD : Vector RomWord 16 :=
  #v[0x0892, 0x1185, 0x3E50, 0x3C88, 0x21B4, 0x11B4, 0x14B6, 0x3CB6, 0x0E52, 0x1124, 0x2152, 0x3C27,
   0x2114, 0x1114, 0x1417, 0x3C17]

/-- Line E0 of the ROM image of R70, as printed. -/
def imageRowE : Vector RomWord 16 :=
  #v[0x1242, 0x2B76, 0x2142, 0x3D78, 0x12A3, 0x2BA3, 0x18A5, 0x3DA5, 0x1952, 0x2B42, 0x2152, 0x2B42,
   0x1204, 0x2B04, 0x1806, 0x3D06]

/-- Line F0 of the ROM image of R70, as printed. -/
def imageRowF : Vector RomWord 16 :=
  #v[0x0592, 0x2B85, 0x3E50, 0x3D88, 0x21B4, 0x2BB4, 0x18B6, 0x3DB6, 0x2D52, 0x2B24, 0x2152, 0x3D27,
   0x2114, 0x2B14, 0x1817, 0x3D17]

/-- The ROM image of R70, transcribed apart from `tableRows`. -/
def imageRows : Vector (Vector RomWord 16) 16 :=
  #v[imageRow0, imageRow1, imageRow2, imageRow3, imageRow4, imageRow5, imageRow6, imageRow7,
   imageRow8, imageRow9, imageRowA, imageRowB, imageRowC, imageRowD, imageRowE, imageRowF]

/-- One read of the ROM: the whole word at an opcode byte (R25, R29). -/
def romImage (b : Byte) : RomWord := (imageRows[b.toNat / 16]'(by omega))[b.toNat % 16]'(by omega)

/-- The 28 undocumented bytes that carry an official mnemonic: 27 no-operations and 0xEB (R57, R85, D2). -/
def undocumentedStandardBytes : List Byte :=
  [0x04, 0x0C, 0x14, 0x1A, 0x1C, 0x34, 0x3A, 0x3C, 0x44, 0x54, 0x5A, 0x5C, 0x64, 0x74, 0x7A, 0x7C,
   0x80, 0x82, 0x89, 0xC2, 0xD4, 0xDA, 0xDC, 0xE2, 0xEB, 0xF4, 0xFA, 0xFC]

/-- Whether the published instruction set defines the byte: informative, the block never uses it (R57, glossary). -/
def officialOpcode (b : Byte) : Bool :=
  classify (table b).mnemonic == .STANDARD && !undocumentedStandardBytes.contains b

end Sys2Proof.Machine
end

