-- ==== Sys2Proof/Decode.lean ====
section
/-! DEFINITION. The decoder from opcode bytes and byte strings to instructions, and after it the encoder (R50, R51,
R58). Every opcode byte decodes (R59); what is rejected is a byte string that ends too early. -/

namespace Sys2Proof

open Sys2Proof.Machine

/-- Opcodes 0x00 to 0x0F (R58). -/
def decodeRow0 : Vector Instr 16 :=
  #v[.brk00, .ora01, .jam02, .slo03, .nop04, .ora05, .asl06, .slo07, .php08, .ora09, .asl0A, .anc0B,
   .nop0C, .ora0D, .asl0E, .slo0F]

/-- Opcodes 0x10 to 0x1F (R58). -/
def decodeRow1 : Vector Instr 16 :=
  #v[.bpl10, .ora11, .jam12, .slo13, .nop14, .ora15, .asl16, .slo17, .clc18, .ora19, .nop1A, .slo1B,
   .nop1C, .ora1D, .asl1E, .slo1F]

/-- Opcodes 0x20 to 0x2F (R58). -/
def decodeRow2 : Vector Instr 16 :=
  #v[.jsr20, .and21, .jam22, .rla23, .bit24, .and25, .rol26, .rla27, .plp28, .and29, .rol2A, .anc2B,
   .bit2C, .and2D, .rol2E, .rla2F]

/-- Opcodes 0x30 to 0x3F (R58). -/
def decodeRow3 : Vector Instr 16 :=
  #v[.bmi30, .and31, .jam32, .rla33, .nop34, .and35, .rol36, .rla37, .sec38, .and39, .nop3A, .rla3B,
   .nop3C, .and3D, .rol3E, .rla3F]

/-- Opcodes 0x40 to 0x4F (R58). -/
def decodeRow4 : Vector Instr 16 :=
  #v[.rti40, .eor41, .jam42, .sre43, .nop44, .eor45, .lsr46, .sre47, .pha48, .eor49, .lsr4A, .alr4B,
   .jmp4C, .eor4D, .lsr4E, .sre4F]

/-- Opcodes 0x50 to 0x5F (R58). -/
def decodeRow5 : Vector Instr 16 :=
  #v[.bvc50, .eor51, .jam52, .sre53, .nop54, .eor55, .lsr56, .sre57, .cli58, .eor59, .nop5A, .sre5B,
   .nop5C, .eor5D, .lsr5E, .sre5F]

/-- Opcodes 0x60 to 0x6F (R58). -/
def decodeRow6 : Vector Instr 16 :=
  #v[.rts60, .adc61, .jam62, .rra63, .nop64, .adc65, .ror66, .rra67, .pla68, .adc69, .ror6A, .arr6B,
   .jmp6C, .adc6D, .ror6E, .rra6F]

/-- Opcodes 0x70 to 0x7F (R58). -/
def decodeRow7 : Vector Instr 16 :=
  #v[.bvs70, .adc71, .jam72, .rra73, .nop74, .adc75, .ror76, .rra77, .sei78, .adc79, .nop7A, .rra7B,
   .nop7C, .adc7D, .ror7E, .rra7F]

/-- Opcodes 0x80 to 0x8F (R58). -/
def decodeRow8 : Vector Instr 16 :=
  #v[.nop80, .sta81, .nop82, .sax83, .sty84, .sta85, .stx86, .sax87, .dey88, .nop89, .txa8A, .ane8B,
   .sty8C, .sta8D, .stx8E, .sax8F]

/-- Opcodes 0x90 to 0x9F (R58). -/
def decodeRow9 : Vector Instr 16 :=
  #v[.bcc90, .sta91, .jam92, .sha93, .sty94, .sta95, .stx96, .sax97, .tya98, .sta99, .txs9A, .tas9B,
   .shy9C, .sta9D, .shx9E, .sha9F]

/-- Opcodes 0xA0 to 0xAF (R58). -/
def decodeRowA : Vector Instr 16 :=
  #v[.ldyA0, .ldaA1, .ldxA2, .laxA3, .ldyA4, .ldaA5, .ldxA6, .laxA7, .tayA8, .ldaA9, .taxAA, .lxaAB,
   .ldyAC, .ldaAD, .ldxAE, .laxAF]

/-- Opcodes 0xB0 to 0xBF (R58). -/
def decodeRowB : Vector Instr 16 :=
  #v[.bcsB0, .ldaB1, .jamB2, .laxB3, .ldyB4, .ldaB5, .ldxB6, .laxB7, .clvB8, .ldaB9, .tsxBA, .lasBB,
   .ldyBC, .ldaBD, .ldxBE, .laxBF]

/-- Opcodes 0xC0 to 0xCF (R58). -/
def decodeRowC : Vector Instr 16 :=
  #v[.cpyC0, .cmpC1, .nopC2, .dcpC3, .cpyC4, .cmpC5, .decC6, .dcpC7, .inyC8, .cmpC9, .dexCA, .sbxCB,
   .cpyCC, .cmpCD, .decCE, .dcpCF]

/-- Opcodes 0xD0 to 0xDF (R58). -/
def decodeRowD : Vector Instr 16 :=
  #v[.bneD0, .cmpD1, .jamD2, .dcpD3, .nopD4, .cmpD5, .decD6, .dcpD7, .cldD8, .cmpD9, .nopDA, .dcpDB,
   .nopDC, .cmpDD, .decDE, .dcpDF]

/-- Opcodes 0xE0 to 0xEF (R58). -/
def decodeRowE : Vector Instr 16 :=
  #v[.cpxE0, .sbcE1, .nopE2, .iscE3, .cpxE4, .sbcE5, .incE6, .iscE7, .inxE8, .sbcE9, .nopEA, .sbcEB,
   .cpxEC, .sbcED, .incEE, .iscEF]

/-- Opcodes 0xF0 to 0xFF (R58). -/
def decodeRowF : Vector Instr 16 :=
  #v[.beqF0, .sbcF1, .jamF2, .iscF3, .nopF4, .sbcF5, .incF6, .iscF7, .sedF8, .sbcF9, .nopFA, .iscFB,
   .nopFC, .sbcFD, .incFE, .iscFF]

/-- The instructions in opcode order: row = high nibble, column = low nibble. -/
def decodeRows : Vector (Vector Instr 16) 16 :=
  #v[decodeRow0, decodeRow1, decodeRow2, decodeRow3, decodeRow4, decodeRow5, decodeRow6, decodeRow7,
   decodeRow8, decodeRow9, decodeRowA, decodeRowB, decodeRowC, decodeRowD, decodeRowE, decodeRowF]

/-- The instruction of an opcode byte: the whole byte is looked up (R50), and every byte has one (R57). -/
def decodeByte (b : Byte) : Instr := (decodeRows[b.toNat / 16]'(by omega))[b.toNat % 16]'(by omega)

/-- The opcode byte of an instruction (R58, R120 to R195), and so the encoder of what the block reads. -/
def encodeByte : Instr → Byte
  -- R120 LDA
  | .ldaA1 => 0xA1 | .ldaA5 => 0xA5 | .ldaA9 => 0xA9 | .ldaAD => 0xAD
  | .ldaB1 => 0xB1 | .ldaB5 => 0xB5 | .ldaB9 => 0xB9 | .ldaBD => 0xBD
  -- R121 LDX
  | .ldxA2 => 0xA2 | .ldxA6 => 0xA6 | .ldxAE => 0xAE | .ldxB6 => 0xB6
  | .ldxBE => 0xBE
  -- R122 LDY
  | .ldyA0 => 0xA0 | .ldyA4 => 0xA4 | .ldyAC => 0xAC | .ldyB4 => 0xB4
  | .ldyBC => 0xBC
  -- R123 STA
  | .sta81 => 0x81 | .sta85 => 0x85 | .sta8D => 0x8D | .sta91 => 0x91
  | .sta95 => 0x95 | .sta99 => 0x99 | .sta9D => 0x9D
  -- R124 STX
  | .stx86 => 0x86 | .stx8E => 0x8E | .stx96 => 0x96
  -- R125 STY
  | .sty84 => 0x84 | .sty8C => 0x8C | .sty94 => 0x94
  -- R126 TAX
  | .taxAA => 0xAA
  -- R127 TAY
  | .tayA8 => 0xA8
  -- R128 TSX
  | .tsxBA => 0xBA
  -- R129 TXA
  | .txa8A => 0x8A
  -- R130 TXS
  | .txs9A => 0x9A
  -- R131 TYA
  | .tya98 => 0x98
  -- R132 ADC
  | .adc61 => 0x61 | .adc65 => 0x65 | .adc69 => 0x69 | .adc6D => 0x6D
  | .adc71 => 0x71 | .adc75 => 0x75 | .adc79 => 0x79 | .adc7D => 0x7D
  -- R133 SBC
  | .sbcE1 => 0xE1 | .sbcE5 => 0xE5 | .sbcE9 => 0xE9 | .sbcEB => 0xEB
  | .sbcED => 0xED | .sbcF1 => 0xF1 | .sbcF5 => 0xF5 | .sbcF9 => 0xF9
  | .sbcFD => 0xFD
  -- R134 AND
  | .and21 => 0x21 | .and25 => 0x25 | .and29 => 0x29 | .and2D => 0x2D
  | .and31 => 0x31 | .and35 => 0x35 | .and39 => 0x39 | .and3D => 0x3D
  -- R135 ORA
  | .ora01 => 0x01 | .ora05 => 0x05 | .ora09 => 0x09 | .ora0D => 0x0D
  | .ora11 => 0x11 | .ora15 => 0x15 | .ora19 => 0x19 | .ora1D => 0x1D
  -- R136 EOR
  | .eor41 => 0x41 | .eor45 => 0x45 | .eor49 => 0x49 | .eor4D => 0x4D
  | .eor51 => 0x51 | .eor55 => 0x55 | .eor59 => 0x59 | .eor5D => 0x5D
  -- R137 CMP
  | .cmpC1 => 0xC1 | .cmpC5 => 0xC5 | .cmpC9 => 0xC9 | .cmpCD => 0xCD
  | .cmpD1 => 0xD1 | .cmpD5 => 0xD5 | .cmpD9 => 0xD9 | .cmpDD => 0xDD
  -- R138 CPX
  | .cpxE0 => 0xE0 | .cpxE4 => 0xE4 | .cpxEC => 0xEC
  -- R139 CPY
  | .cpyC0 => 0xC0 | .cpyC4 => 0xC4 | .cpyCC => 0xCC
  -- R140 BIT
  | .bit24 => 0x24 | .bit2C => 0x2C
  -- R141 INC
  | .incE6 => 0xE6 | .incEE => 0xEE | .incF6 => 0xF6 | .incFE => 0xFE
  -- R142 INX
  | .inxE8 => 0xE8
  -- R143 INY
  | .inyC8 => 0xC8
  -- R144 DEC
  | .decC6 => 0xC6 | .decCE => 0xCE | .decD6 => 0xD6 | .decDE => 0xDE
  -- R145 DEX
  | .dexCA => 0xCA
  -- R146 DEY
  | .dey88 => 0x88
  -- R147 ASL
  | .asl06 => 0x06 | .asl0A => 0x0A | .asl0E => 0x0E | .asl16 => 0x16
  | .asl1E => 0x1E
  -- R148 LSR
  | .lsr46 => 0x46 | .lsr4A => 0x4A | .lsr4E => 0x4E | .lsr56 => 0x56
  | .lsr5E => 0x5E
  -- R149 ROL
  | .rol26 => 0x26 | .rol2A => 0x2A | .rol2E => 0x2E | .rol36 => 0x36
  | .rol3E => 0x3E
  -- R150 ROR
  | .ror66 => 0x66 | .ror6A => 0x6A | .ror6E => 0x6E | .ror76 => 0x76
  | .ror7E => 0x7E
  -- R151 BCC
  | .bcc90 => 0x90
  -- R152 BCS
  | .bcsB0 => 0xB0
  -- R153 BEQ
  | .beqF0 => 0xF0
  -- R154 BMI
  | .bmi30 => 0x30
  -- R155 BNE
  | .bneD0 => 0xD0
  -- R156 BPL
  | .bpl10 => 0x10
  -- R157 BVC
  | .bvc50 => 0x50
  -- R158 BVS
  | .bvs70 => 0x70
  -- R159 JMP
  | .jmp4C => 0x4C | .jmp6C => 0x6C
  -- R160 JSR
  | .jsr20 => 0x20
  -- R161 RTS
  | .rts60 => 0x60
  -- R162 RTI
  | .rti40 => 0x40
  -- R163 BRK
  | .brk00 => 0x00
  -- R164 PHA
  | .pha48 => 0x48
  -- R165 PHP
  | .php08 => 0x08
  -- R166 PLA
  | .pla68 => 0x68
  -- R167 PLP
  | .plp28 => 0x28
  -- R168 CLC
  | .clc18 => 0x18
  -- R169 CLD
  | .cldD8 => 0xD8
  -- R170 CLI
  | .cli58 => 0x58
  -- R171 CLV
  | .clvB8 => 0xB8
  -- R172 SEC
  | .sec38 => 0x38
  -- R173 SED
  | .sedF8 => 0xF8
  -- R174 SEI
  | .sei78 => 0x78
  -- R175 NOP
  | .nop04 => 0x04 | .nop0C => 0x0C | .nop14 => 0x14 | .nop1A => 0x1A
  | .nop1C => 0x1C | .nop34 => 0x34 | .nop3A => 0x3A | .nop3C => 0x3C
  | .nop44 => 0x44 | .nop54 => 0x54 | .nop5A => 0x5A | .nop5C => 0x5C
  | .nop64 => 0x64 | .nop74 => 0x74 | .nop7A => 0x7A | .nop7C => 0x7C
  | .nop80 => 0x80 | .nop82 => 0x82 | .nop89 => 0x89 | .nopC2 => 0xC2
  | .nopD4 => 0xD4 | .nopDA => 0xDA | .nopDC => 0xDC | .nopE2 => 0xE2
  | .nopEA => 0xEA | .nopF4 => 0xF4 | .nopFA => 0xFA | .nopFC => 0xFC
  -- R176 ALR
  | .alr4B => 0x4B
  -- R177 ANC
  | .anc0B => 0x0B | .anc2B => 0x2B
  -- R178 ANE
  | .ane8B => 0x8B
  -- R179 ARR
  | .arr6B => 0x6B
  -- R180 DCP
  | .dcpC3 => 0xC3 | .dcpC7 => 0xC7 | .dcpCF => 0xCF | .dcpD3 => 0xD3
  | .dcpD7 => 0xD7 | .dcpDB => 0xDB | .dcpDF => 0xDF
  -- R181 ISC
  | .iscE3 => 0xE3 | .iscE7 => 0xE7 | .iscEF => 0xEF | .iscF3 => 0xF3
  | .iscF7 => 0xF7 | .iscFB => 0xFB | .iscFF => 0xFF
  -- R182 JAM
  | .jam02 => 0x02 | .jam12 => 0x12 | .jam22 => 0x22 | .jam32 => 0x32
  | .jam42 => 0x42 | .jam52 => 0x52 | .jam62 => 0x62 | .jam72 => 0x72
  | .jam92 => 0x92 | .jamB2 => 0xB2 | .jamD2 => 0xD2 | .jamF2 => 0xF2
  -- R183 LAS
  | .lasBB => 0xBB
  -- R184 LAX
  | .laxA3 => 0xA3 | .laxA7 => 0xA7 | .laxAF => 0xAF | .laxB3 => 0xB3
  | .laxB7 => 0xB7 | .laxBF => 0xBF
  -- R185 LXA
  | .lxaAB => 0xAB
  -- R186 RLA
  | .rla23 => 0x23 | .rla27 => 0x27 | .rla2F => 0x2F | .rla33 => 0x33
  | .rla37 => 0x37 | .rla3B => 0x3B | .rla3F => 0x3F
  -- R187 RRA
  | .rra63 => 0x63 | .rra67 => 0x67 | .rra6F => 0x6F | .rra73 => 0x73
  | .rra77 => 0x77 | .rra7B => 0x7B | .rra7F => 0x7F
  -- R188 SAX
  | .sax83 => 0x83 | .sax87 => 0x87 | .sax8F => 0x8F | .sax97 => 0x97
  -- R189 SBX
  | .sbxCB => 0xCB
  -- R190 SHA
  | .sha93 => 0x93 | .sha9F => 0x9F
  -- R191 SHX
  | .shx9E => 0x9E
  -- R192 SHY
  | .shy9C => 0x9C
  -- R193 SLO
  | .slo03 => 0x03 | .slo07 => 0x07 | .slo0F => 0x0F | .slo13 => 0x13
  | .slo17 => 0x17 | .slo1B => 0x1B | .slo1F => 0x1F
  -- R194 SRE
  | .sre43 => 0x43 | .sre47 => 0x47 | .sre4F => 0x4F | .sre53 => 0x53
  | .sre57 => 0x57 | .sre5B => 0x5B | .sre5F => 0x5F
  -- R195 TAS
  | .tas9B => 0x9B

/-- Why a byte string is rejected. The block itself rejects no byte (R59); it is the host that finds bytes missing. -/
inductive DecodeReject
  /-- There is no opcode byte. -/
  | noOpcodeByte
  /-- `i` needs `need` operand bytes and only `have_` are left. -/
  | operandBytesMissing (i : Instr) (need have_ : Nat)
deriving DecidableEq, Repr

/-- The block's own decoding of a byte string: the opcode byte in front, the rest untouched (R26, R51). -/
def decode : List Byte → Except DecodeReject (Instr × List Byte)
  | []        => .error .noOpcodeByte
  | b :: rest => .ok (decodeByte b, rest)

/-- The number of operand bytes that follow an instruction's opcode (R51, R56). -/
def Instr.operandCount (i : Instr) : Nat := operandByteCount (table (encodeByte i)).mode

/-- The host's cutting of a byte string: the opcode, then `length - 1` operand bytes (R13, R27, R50). -/
def decodeInstrBytes (bytes : List Byte) : Except DecodeReject (InstrBytes × List Byte) :=
  match decode bytes with
  | .error e       => .error e
  | .ok (i, rest) =>
    if i.operandCount ≤ rest.length then
      .ok (⟨i, rest.take i.operandCount⟩, rest.drop i.operandCount)
    else .error (.operandBytesMissing i i.operandCount rest.length)

/-- The bytes of an instruction, in the order of the instruction stream (R27, R50). -/
def encode (x : InstrBytes) : List Byte := encodeByte x.instr :: x.operands

/-- The bytes of an instruction whose bits are `w`, the table's `nbits` of them, the bits above zero: the first byte
is bits 7:0, and an instruction has at most three bytes (R50). -/
def layoutWord (nbits w : Nat) : List Byte :=
  let v := w % 2 ^ nbits
  [BitVec.ofNat 8 v, BitVec.ofNat 8 (v / 256), BitVec.ofNat 8 (v / 65536)]

/-- The opcode byte of a table word: its first byte. -/
def opcodeOfWord (nbits w : Nat) : Byte := (layoutWord nbits w).headD 0

/-- What the decoder reads from an instruction whose bits are `w`. -/
def decodeTableWord (nbits w : Nat) : Option Instr :=
  match decode (layoutWord nbits w) with
  | .ok (i, _) => some i
  | .error _   => none

end Sys2Proof
end

