-- ==== Sys2Proof/Machine/Decoder.lean ====
section
/-! DEFINITION. Unit DEC: the operation `as_instruction` and the sentinel (R90 to R98). -/

namespace Sys2Proof.Machine

/-- `SENTINEL(b)`, R93, for a choice of the open parameter `SENTINEL_OPCODE`. -/
def sentinelWith (sentinelOpcode : Byte → Byte) (b : Byte) : Descriptor where
  opcode         := sentinelOpcode b
  mnemonic       := .NOP
  mode           := .Implied
  length         := 1
  cycles         := 2
  instructionSet := .STANDARD

/-- The descriptor of a real decode: step 3 of R91, its `opcode` field by R92. -/
def decodedDescriptor (b : Byte) (e : Entry) : Descriptor where
  opcode         := b
  mnemonic       := e.mnemonic
  mode           := e.mode
  length         := instructionLength e.mode
  cycles         := zext64 e.baseCycles
  instructionSet := classify e.mnemonic

/-- `as_instruction`, R91, over any table and any choice of `SENTINEL_OPCODE` (U1, U7). -/
def asInstructionWith (tbl : Byte → Entry) (sentinelOpcode : Byte → Byte) (b : Byte)
    (requested : InstructionSet) : Descriptor :=
  if classify (tbl b).mnemonic = requested then decodedDescriptor b (tbl b)
  else sentinelWith sentinelOpcode b

/-- The sentinel of this block. -/
def sentinel (b : Byte) : Descriptor := sentinelWith Config.sentinelOpcode b

/-- `as_instruction`, R90 and R91, with the block's own table. -/
def asInstruction (b : Byte) (requested : InstructionSet) : Descriptor :=
  asInstructionWith table Config.sentinelOpcode b requested

/-- `decodable(b, s)` of R94. -/
def decodable (b : Byte) (requested : InstructionSet) : Bool :=
  classify (table b).mnemonic == requested

/-- The host's way to decode both sets (R95, R229): query `NMOS`, fall back to `STANDARD`. -/
def asInstructionNmosFirst (b : Byte) : Descriptor :=
  let n := asInstruction b .NMOS
  if n.instructionSet = .NMOS then n else asInstruction b .STANDARD

end Sys2Proof.Machine
end

