-- ==== Sys2Proof/Machine/Penalty.lean ====
section
/-! DEFINITION. Unit PEN: the page-crossing cycle-penalty calculator (R100 to R110). -/

namespace Sys2Proof.Machine

/-- `BRANCH_SAME_PENALTY` (R6). -/
def branchSamePenalty : Cycles := 1

/-- `BRANCH_CROSSED_PENALTY` (R6). -/
def branchCrossedPenalty : Cycles := 2

/-- `INDEXED_SAME_PENALTY` (R6). -/
def indexedSamePenalty : Cycles := 0

/-- `INDEXED_CROSSED_PENALTY` (R6, R103): 1, which the source itself flags as an open question (R232, D17).
Log entry 8. -/
def indexedCrossedPenalty : Cycles := 1

/-- `BRANCH_MNEMONICS` of R101. -/
def branchMnemonics : List Mnemonic := [.BCC, .BCS, .BEQ, .BMI, .BNE, .BPL, .BVC, .BVS]

/-- `PENALTY_MNEMONICS` of R101. -/
def penaltyMnemonics : List Mnemonic :=
  [.ADC, .AND, .CMP, .EOR, .LAS, .LAX, .LDA, .LDX, .LDY, .ORA, .SBC]

/-- `PENALTY_MODES` of R101. -/
def penaltyModes : List AddressingMode := [.AbsoluteX, .AbsoluteY, .IndirectY]

/-- `penalty_class` of R101, its three cases tried in the rule's order. -/
def penaltyClass (m : Mnemonic) (a : AddressingMode) : PenaltyClass :=
  if m ∈ branchMnemonics then .BRANCH
  else if m ∈ penaltyMnemonics ∧ a ∈ penaltyModes then .INDEXED_READ
  else .NONE

/-- The penalty by class and page relation: the table of R105. -/
def penaltyOf : PenaltyClass → PageBoundary → Cycles
  | .BRANCH,       .SAME    => branchSamePenalty
  | .BRANCH,       .CROSSED => branchCrossedPenalty
  | .INDEXED_READ, .SAME    => indexedSamePenalty
  | .INDEXED_READ, .CROSSED => indexedCrossedPenalty
  | .NONE,         .SAME    => 0
  | .NONE,         .CROSSED => 0

/-- The calculator on the three descriptor fields it reads (R19, R100): a 64-bit unsigned addition (R107). -/
def penaltyResult (m : Mnemonic) (a : AddressingMode) (cycles : Cycles) (r : PageBoundary) : Cycles :=
  cycles + penaltyOf (penaltyClass m a) r

/-- `cycles_with_penalty`, R100 and R101. -/
def cyclesWithPenalty (d : Descriptor) (r : PageBoundary) : Cycles :=
  penaltyResult d.mnemonic d.mode d.cycles r

end Sys2Proof.Machine
end

