-- ==== Sys2Proof/Machine/State.lean ====
section
/-! DEFINITION. The state of the machine as a host sees it: the values on the ports of units DEC and PEN (R18, R19)
and the query the host makes next. The block's own state is the constant `table` (R10, log entry 1). -/

namespace Sys2Proof.Machine

/-- What stops the machine with a fault: nothing. The block raises no exception under any input (R200, R202),
so the type has no constructor. -/
inductive Fault
deriving DecidableEq, Repr

/-- Why a step is refused. -/
inductive Refusal
  /-- Raised by `exec` for an instruction that has no meaning yet; no arm raises it. Safe. -/
  | notModelled (mnemonic : String)
  /-- Raised by unit PEN when the host drives a mnemonic code that is no mnemonic, 76 to 127 (R64, U6). Safe. -/
  | penMnemonicNotAValue (code : MnemonicCode)
  /-- Raised by unit PEN when the host drives a mode code that is no addressing mode, 13 to 15 (R64, U6). Safe. -/
  | penModeNotAValue (code : ModeCode)
deriving DecidableEq, Repr

/-- Which evaluation the host asks for (R20, R21): the model's own field, log entry 4. -/
inductive Query
  /-- `as_instruction` alone: unit DEC on `dec_opcode` and `dec_requested_set`. -/
  | decode
  /-- The data flow of R21: unit DEC, and unit PEN fed directly with DEC's outputs (R20). -/
  | decodeAndCost
  /-- `cycles_with_penalty` alone, on whatever descriptor the host presents at PEN's ports (R20, R108). -/
  | cost
deriving DecidableEq, Repr

/-- The port values of R18 and R19, under the spec's names, and the host's query. -/
structure State where
  /-- `dec_opcode`, in. -/
  decOpcode       : Byte
  /-- `dec_requested_set`, in. -/
  decRequestedSet : InstructionSet
  /-- `ins_opcode`, out. -/
  insOpcode       : Byte
  /-- `ins_mnemonic`, out. -/
  insMnemonic     : Mnemonic
  /-- `ins_mode`, out. -/
  insMode         : AddressingMode
  /-- `ins_length`, out. -/
  insLength       : Length
  /-- `ins_cycles`, out. -/
  insCycles       : Cycles
  /-- `ins_set`, out. -/
  insSet          : InstructionSet
  /-- `pen_mnemonic`, in: any bit pattern (R64). -/
  penMnemonic     : MnemonicCode
  /-- `pen_mode`, in: any bit pattern (R64). -/
  penMode         : ModeCode
  /-- `pen_cycles`, in. -/
  penCycles       : Cycles
  /-- `pen_page_relation`, in. -/
  penPageRelation : PageBoundary
  /-- `pen_result`, out. -/
  penResult       : Cycles
  /-- What the host asks for at the next step. -/
  query           : Query
deriving DecidableEq, Repr

/-- The six outputs of unit DEC read as one descriptor (R60). -/
def State.descriptor (s : State) : Descriptor where
  opcode         := s.insOpcode
  mnemonic       := s.insMnemonic
  mode           := s.insMode
  length         := s.insLength
  cycles         := s.insCycles
  instructionSet := s.insSet

/-- The machine after reset. No reset touches the block (R220). The input ports stand at their zero codes
(DESIGN CHOICE, log entry 5) and the outputs at the function of those inputs (R221): `BRK` for byte 0x00 under
`STANDARD`, and 0 cycles for (`ADC`, `Absolute`, 0) under `SAME`. -/
def State.reset : State where
  decOpcode       := 0x00
  decRequestedSet := .STANDARD
  insOpcode       := 0x00
  insMnemonic     := .BRK
  insMode         := .Implied
  insLength       := 1
  insCycles       := 7
  insSet          := .STANDARD
  penMnemonic     := 0
  penMode         := 0
  penCycles       := 0
  penPageRelation := .SAME
  penResult       := 0
  query           := .decodeAndCost

end Sys2Proof.Machine
end

