-- ==== Sys2Proof/Machine/Units.lean ====
section
/-! DEFINITION. The two units at their bit-level ports (R18, R19): DEC as the ROM image and the logic after it,
PEN with its enumeration inputs as bit patterns. -/

namespace Sys2Proof.Machine

/-- Unit DEC's six outputs as bits (R18). -/
structure DecPorts where
  insOpcode   : Byte
  insMnemonic : MnemonicCode
  insMode     : ModeCode
  insLength   : Length
  insCycles   : Cycles
  insSet      : BitVec 1
deriving DecidableEq, Repr

/-- The bits on unit DEC's outputs that stand for a descriptor (R52 to R54, R60). -/
def Descriptor.ports (d : Descriptor) : DecPorts where
  insOpcode   := d.opcode
  insMnemonic := d.mnemonic.code
  insMode     := d.mode.code
  insLength   := d.length
  insCycles   := d.cycles
  insSet      := d.instructionSet.code

/-- Unit DEC as hardware: the ROM word of the opcode (R66, R70), length derivation, class comparison and the
sentinel multiplexer (R1, R84, R91, R93). -/
def decUnit (opcode : Byte) (requested : BitVec 1) : DecPorts :=
  let word := romImage opcode
  let mnemonic := wordMnemonic word
  let mode := wordMode word
  if classBit mnemonic = requested then
    ⟨opcode, mnemonic, mode, lengthOfModeCode mode, zext64 (wordBase word), classBit mnemonic⟩
  else
    ⟨Config.sentinelOpcode opcode, 33, 5, 1, 2, 0⟩

/-- Unit PEN as hardware. A bit pattern that is no enumeration value is outside its domain and is refused
(R64, D13, U6); the mnemonic is examined first (log entry 11). -/
def penUnit (mnemonic : MnemonicCode) (mode : ModeCode) (cycles : Cycles) (relation : PageBoundary) :
    Except Refusal Cycles :=
  match Mnemonic.ofCode mnemonic with
  | none => .error (.penMnemonicNotAValue mnemonic)
  | some m =>
    match AddressingMode.ofCode mode with
    | none   => .error (.penModeNotAValue mode)
    | some a => .ok (penaltyResult m a cycles relation)

/-- What unit PEN drives on `pen_result` at every moment (R19, R230): the calculator's result in its domain, a free
value outside it (log entry 18). -/
def penOutput (mnemonic : MnemonicCode) (mode : ModeCode) (cycles : Cycles) (relation : PageBoundary) : Cycles :=
  match penUnit mnemonic mode cycles relation with
  | .ok c    => c
  | .error _ => Config.penOutsideDomain mnemonic mode cycles relation.code

end Sys2Proof.Machine
end

