-- ==== Sys2Proof/Machine/Ops.lean ====
section
/-! DEFINITION. The shared operations over the ports: driving the inputs, settling the two units, the two kinds of query,
and presenting an opcode. Every operation that answers a state leaves both units' outputs at the functions of what
stands on their inputs (R18, R19, R230). The block takes no exception (R200), so there is no exception entry here. -/

namespace Sys2Proof.Machine

/-- Unit DEC drives a descriptor on its six outputs (R18, R60). -/
def State.driveDec (s : State) (d : Descriptor) : State :=
  { s with
    insOpcode   := d.opcode
    insMnemonic := d.mnemonic
    insMode     := d.mode
    insLength   := d.length
    insCycles   := d.cycles
    insSet      := d.instructionSet }

/-- The host feeds DEC's outputs to the three descriptor inputs of PEN directly (R19, R20). -/
def State.feedPen (s : State) : State :=
  { s with
    penMnemonic := s.insMnemonic.code
    penMode     := s.insMode.code
    penCycles   := s.insCycles }

/-- Unit PEN drives its result (R19). -/
def State.drivePen (s : State) (c : Cycles) : State := { s with penResult := c }

/-- The host drives an opcode byte on `dec_opcode` (R18). -/
def State.driveOpcode (s : State) (b : Byte) : State := { s with decOpcode := b }

/-- Unit DEC's outputs follow its inputs (R18, R230). -/
def State.settleDec (s : State) : State := s.driveDec (asInstruction s.decOpcode s.decRequestedSet)

/-- Unit PEN's output follows its inputs (R19, R230). -/
def State.settlePen (s : State) : State :=
  s.drivePen (penOutput s.penMnemonic s.penMode s.penCycles s.penPageRelation)

/-- A `cycles_with_penalty` query on what stands at PEN's inputs (R100, R108); refused outside the domain (R64).
Both units' outputs follow their inputs. -/
def queryCost (s : State) : Host.Outcome State Fault Refusal :=
  match penUnit s.penMnemonic s.penMode s.penCycles s.penPageRelation with
  | .ok _    => .next s.settleDec.settlePen
  | .error r => .refused r

/-- The ports when `b` stands on `dec_opcode` and both units have settled; where the host feeds DEC to PEN, PEN's
descriptor inputs are DEC's outputs. -/
def evaluated (b : Byte) (s : State) : State :=
  let t := (s.driveOpcode b).settleDec
  match s.query with
  | .decodeAndCost => t.feedPen.settlePen
  | .decode        => t.settlePen
  | .cost          => t.settlePen

/-- What the block does with the opcode byte `b` (the Semantics sentence of R120 to R195): `as_instruction` under
the requested set, and, when the host feeds DEC to PEN, `cycles_with_penalty` of that descriptor. It never fails
(R90, R200). -/
def evaluate (b : Byte) (s : State) : Host.Outcome State Fault Refusal := .next (evaluated b s)

/-- The instruction whose opcode byte stands on `dec_opcode` (R36: the block decodes whatever byte is there). -/
def fetch (s : State) : Instr := decodeByte s.decOpcode

/-- The query that presents an opcode: PEN-only queries turn into the full data flow. -/
def Query.presenting : Query → Query
  | .decode        => .decode
  | .decodeAndCost => .decodeAndCost
  | .cost          => .decodeAndCost

/-- The host drives an opcode byte on `dec_opcode` and asks for its evaluation (R36, log entry 7). -/
def State.presentOpcode (s : State) (b : Byte) : State :=
  { s with decOpcode := b, query := s.query.presenting }

end Sys2Proof.Machine
end

