-- ==== Sys2Proof/Machine/ArithLogic.lean ====
section
/-! DEFINITION. What the block does with the arithmetic, logic, compare, increment and shift instructions (R132 to R150): each presents its
opcode byte, and `evaluate` gives the descriptor or the sentinel, and the cost (R91, R93, R101). -/

namespace Sys2Proof.Machine

/-- R132: `ADC` `IndirectX`, opcode 0x61. -/
def execAdc61 (s : State) : Host.Outcome State Fault Refusal := evaluate 0x61 s

/-- R132: `ADC` `ZeroPage`, opcode 0x65. -/
def execAdc65 (s : State) : Host.Outcome State Fault Refusal := evaluate 0x65 s

/-- R132: `ADC` `Immediate`, opcode 0x69. -/
def execAdc69 (s : State) : Host.Outcome State Fault Refusal := evaluate 0x69 s

/-- R132: `ADC` `Absolute`, opcode 0x6D. -/
def execAdc6D (s : State) : Host.Outcome State Fault Refusal := evaluate 0x6D s

/-- R132: `ADC` `IndirectY`, opcode 0x71. -/
def execAdc71 (s : State) : Host.Outcome State Fault Refusal := evaluate 0x71 s

/-- R132: `ADC` `ZeroPageX`, opcode 0x75. -/
def execAdc75 (s : State) : Host.Outcome State Fault Refusal := evaluate 0x75 s

/-- R132: `ADC` `AbsoluteY`, opcode 0x79. -/
def execAdc79 (s : State) : Host.Outcome State Fault Refusal := evaluate 0x79 s

/-- R132: `ADC` `AbsoluteX`, opcode 0x7D. -/
def execAdc7D (s : State) : Host.Outcome State Fault Refusal := evaluate 0x7D s

/-- R133: `SBC` `IndirectX`, opcode 0xE1. -/
def execSbcE1 (s : State) : Host.Outcome State Fault Refusal := evaluate 0xE1 s

/-- R133: `SBC` `ZeroPage`, opcode 0xE5. -/
def execSbcE5 (s : State) : Host.Outcome State Fault Refusal := evaluate 0xE5 s

/-- R133: `SBC` `Immediate`, opcode 0xE9. -/
def execSbcE9 (s : State) : Host.Outcome State Fault Refusal := evaluate 0xE9 s

/-- R133: `SBC` `Immediate`, opcode 0xEB. -/
def execSbcEB (s : State) : Host.Outcome State Fault Refusal := evaluate 0xEB s

/-- R133: `SBC` `Absolute`, opcode 0xED. -/
def execSbcED (s : State) : Host.Outcome State Fault Refusal := evaluate 0xED s

/-- R133: `SBC` `IndirectY`, opcode 0xF1. -/
def execSbcF1 (s : State) : Host.Outcome State Fault Refusal := evaluate 0xF1 s

/-- R133: `SBC` `ZeroPageX`, opcode 0xF5. -/
def execSbcF5 (s : State) : Host.Outcome State Fault Refusal := evaluate 0xF5 s

/-- R133: `SBC` `AbsoluteY`, opcode 0xF9. -/
def execSbcF9 (s : State) : Host.Outcome State Fault Refusal := evaluate 0xF9 s

/-- R133: `SBC` `AbsoluteX`, opcode 0xFD. -/
def execSbcFD (s : State) : Host.Outcome State Fault Refusal := evaluate 0xFD s

/-- R134: `AND` `IndirectX`, opcode 0x21. -/
def execAnd21 (s : State) : Host.Outcome State Fault Refusal := evaluate 0x21 s

/-- R134: `AND` `ZeroPage`, opcode 0x25. -/
def execAnd25 (s : State) : Host.Outcome State Fault Refusal := evaluate 0x25 s

/-- R134: `AND` `Immediate`, opcode 0x29. -/
def execAnd29 (s : State) : Host.Outcome State Fault Refusal := evaluate 0x29 s

/-- R134: `AND` `Absolute`, opcode 0x2D. -/
def execAnd2D (s : State) : Host.Outcome State Fault Refusal := evaluate 0x2D s

/-- R134: `AND` `IndirectY`, opcode 0x31. -/
def execAnd31 (s : State) : Host.Outcome State Fault Refusal := evaluate 0x31 s

/-- R134: `AND` `ZeroPageX`, opcode 0x35. -/
def execAnd35 (s : State) : Host.Outcome State Fault Refusal := evaluate 0x35 s

/-- R134: `AND` `AbsoluteY`, opcode 0x39. -/
def execAnd39 (s : State) : Host.Outcome State Fault Refusal := evaluate 0x39 s

/-- R134: `AND` `AbsoluteX`, opcode 0x3D. -/
def execAnd3D (s : State) : Host.Outcome State Fault Refusal := evaluate 0x3D s

/-- R135: `ORA` `IndirectX`, opcode 0x01. -/
def execOra01 (s : State) : Host.Outcome State Fault Refusal := evaluate 0x01 s

/-- R135: `ORA` `ZeroPage`, opcode 0x05. -/
def execOra05 (s : State) : Host.Outcome State Fault Refusal := evaluate 0x05 s

/-- R135: `ORA` `Immediate`, opcode 0x09. -/
def execOra09 (s : State) : Host.Outcome State Fault Refusal := evaluate 0x09 s

/-- R135: `ORA` `Absolute`, opcode 0x0D. -/
def execOra0D (s : State) : Host.Outcome State Fault Refusal := evaluate 0x0D s

/-- R135: `ORA` `IndirectY`, opcode 0x11. -/
def execOra11 (s : State) : Host.Outcome State Fault Refusal := evaluate 0x11 s

/-- R135: `ORA` `ZeroPageX`, opcode 0x15. -/
def execOra15 (s : State) : Host.Outcome State Fault Refusal := evaluate 0x15 s

/-- R135: `ORA` `AbsoluteY`, opcode 0x19. -/
def execOra19 (s : State) : Host.Outcome State Fault Refusal := evaluate 0x19 s

/-- R135: `ORA` `AbsoluteX`, opcode 0x1D. -/
def execOra1D (s : State) : Host.Outcome State Fault Refusal := evaluate 0x1D s

/-- R136: `EOR` `IndirectX`, opcode 0x41. -/
def execEor41 (s : State) : Host.Outcome State Fault Refusal := evaluate 0x41 s

/-- R136: `EOR` `ZeroPage`, opcode 0x45. -/
def execEor45 (s : State) : Host.Outcome State Fault Refusal := evaluate 0x45 s

/-- R136: `EOR` `Immediate`, opcode 0x49. -/
def execEor49 (s : State) : Host.Outcome State Fault Refusal := evaluate 0x49 s

/-- R136: `EOR` `Absolute`, opcode 0x4D. -/
def execEor4D (s : State) : Host.Outcome State Fault Refusal := evaluate 0x4D s

/-- R136: `EOR` `IndirectY`, opcode 0x51. -/
def execEor51 (s : State) : Host.Outcome State Fault Refusal := evaluate 0x51 s

/-- R136: `EOR` `ZeroPageX`, opcode 0x55. -/
def execEor55 (s : State) : Host.Outcome State Fault Refusal := evaluate 0x55 s

/-- R136: `EOR` `AbsoluteY`, opcode 0x59. -/
def execEor59 (s : State) : Host.Outcome State Fault Refusal := evaluate 0x59 s

/-- R136: `EOR` `AbsoluteX`, opcode 0x5D. -/
def execEor5D (s : State) : Host.Outcome State Fault Refusal := evaluate 0x5D s

/-- R137: `CMP` `IndirectX`, opcode 0xC1. -/
def execCmpC1 (s : State) : Host.Outcome State Fault Refusal := evaluate 0xC1 s

/-- R137: `CMP` `ZeroPage`, opcode 0xC5. -/
def execCmpC5 (s : State) : Host.Outcome State Fault Refusal := evaluate 0xC5 s

/-- R137: `CMP` `Immediate`, opcode 0xC9. -/
def execCmpC9 (s : State) : Host.Outcome State Fault Refusal := evaluate 0xC9 s

/-- R137: `CMP` `Absolute`, opcode 0xCD. -/
def execCmpCD (s : State) : Host.Outcome State Fault Refusal := evaluate 0xCD s

/-- R137: `CMP` `IndirectY`, opcode 0xD1. -/
def execCmpD1 (s : State) : Host.Outcome State Fault Refusal := evaluate 0xD1 s

/-- R137: `CMP` `ZeroPageX`, opcode 0xD5. -/
def execCmpD5 (s : State) : Host.Outcome State Fault Refusal := evaluate 0xD5 s

/-- R137: `CMP` `AbsoluteY`, opcode 0xD9. -/
def execCmpD9 (s : State) : Host.Outcome State Fault Refusal := evaluate 0xD9 s

/-- R137: `CMP` `AbsoluteX`, opcode 0xDD. -/
def execCmpDD (s : State) : Host.Outcome State Fault Refusal := evaluate 0xDD s

/-- R138: `CPX` `Immediate`, opcode 0xE0. -/
def execCpxE0 (s : State) : Host.Outcome State Fault Refusal := evaluate 0xE0 s

/-- R138: `CPX` `ZeroPage`, opcode 0xE4. -/
def execCpxE4 (s : State) : Host.Outcome State Fault Refusal := evaluate 0xE4 s

/-- R138: `CPX` `Absolute`, opcode 0xEC. -/
def execCpxEC (s : State) : Host.Outcome State Fault Refusal := evaluate 0xEC s

/-- R139: `CPY` `Immediate`, opcode 0xC0. -/
def execCpyC0 (s : State) : Host.Outcome State Fault Refusal := evaluate 0xC0 s

/-- R139: `CPY` `ZeroPage`, opcode 0xC4. -/
def execCpyC4 (s : State) : Host.Outcome State Fault Refusal := evaluate 0xC4 s

/-- R139: `CPY` `Absolute`, opcode 0xCC. -/
def execCpyCC (s : State) : Host.Outcome State Fault Refusal := evaluate 0xCC s

/-- R140: `BIT` `ZeroPage`, opcode 0x24. -/
def execBit24 (s : State) : Host.Outcome State Fault Refusal := evaluate 0x24 s

/-- R140: `BIT` `Absolute`, opcode 0x2C. -/
def execBit2C (s : State) : Host.Outcome State Fault Refusal := evaluate 0x2C s

/-- R141: `INC` `ZeroPage`, opcode 0xE6. -/
def execIncE6 (s : State) : Host.Outcome State Fault Refusal := evaluate 0xE6 s

/-- R141: `INC` `Absolute`, opcode 0xEE. -/
def execIncEE (s : State) : Host.Outcome State Fault Refusal := evaluate 0xEE s

/-- R141: `INC` `ZeroPageX`, opcode 0xF6. -/
def execIncF6 (s : State) : Host.Outcome State Fault Refusal := evaluate 0xF6 s

/-- R141: `INC` `AbsoluteX`, opcode 0xFE. -/
def execIncFE (s : State) : Host.Outcome State Fault Refusal := evaluate 0xFE s

/-- R142: `INX` `Implied`, opcode 0xE8. -/
def execInxE8 (s : State) : Host.Outcome State Fault Refusal := evaluate 0xE8 s

/-- R143: `INY` `Implied`, opcode 0xC8. -/
def execInyC8 (s : State) : Host.Outcome State Fault Refusal := evaluate 0xC8 s

/-- R144: `DEC` `ZeroPage`, opcode 0xC6. -/
def execDecC6 (s : State) : Host.Outcome State Fault Refusal := evaluate 0xC6 s

/-- R144: `DEC` `Absolute`, opcode 0xCE. -/
def execDecCE (s : State) : Host.Outcome State Fault Refusal := evaluate 0xCE s

/-- R144: `DEC` `ZeroPageX`, opcode 0xD6. -/
def execDecD6 (s : State) : Host.Outcome State Fault Refusal := evaluate 0xD6 s

/-- R144: `DEC` `AbsoluteX`, opcode 0xDE. -/
def execDecDE (s : State) : Host.Outcome State Fault Refusal := evaluate 0xDE s

/-- R145: `DEX` `Implied`, opcode 0xCA. -/
def execDexCA (s : State) : Host.Outcome State Fault Refusal := evaluate 0xCA s

/-- R146: `DEY` `Implied`, opcode 0x88. -/
def execDey88 (s : State) : Host.Outcome State Fault Refusal := evaluate 0x88 s

/-- R147: `ASL` `ZeroPage`, opcode 0x06. -/
def execAsl06 (s : State) : Host.Outcome State Fault Refusal := evaluate 0x06 s

/-- R147: `ASL` `Accumulator`, opcode 0x0A. -/
def execAsl0A (s : State) : Host.Outcome State Fault Refusal := evaluate 0x0A s

/-- R147: `ASL` `Absolute`, opcode 0x0E. -/
def execAsl0E (s : State) : Host.Outcome State Fault Refusal := evaluate 0x0E s

/-- R147: `ASL` `ZeroPageX`, opcode 0x16. -/
def execAsl16 (s : State) : Host.Outcome State Fault Refusal := evaluate 0x16 s

/-- R147: `ASL` `AbsoluteX`, opcode 0x1E. -/
def execAsl1E (s : State) : Host.Outcome State Fault Refusal := evaluate 0x1E s

/-- R148: `LSR` `ZeroPage`, opcode 0x46. -/
def execLsr46 (s : State) : Host.Outcome State Fault Refusal := evaluate 0x46 s

/-- R148: `LSR` `Accumulator`, opcode 0x4A. -/
def execLsr4A (s : State) : Host.Outcome State Fault Refusal := evaluate 0x4A s

/-- R148: `LSR` `Absolute`, opcode 0x4E. -/
def execLsr4E (s : State) : Host.Outcome State Fault Refusal := evaluate 0x4E s

/-- R148: `LSR` `ZeroPageX`, opcode 0x56. -/
def execLsr56 (s : State) : Host.Outcome State Fault Refusal := evaluate 0x56 s

/-- R148: `LSR` `AbsoluteX`, opcode 0x5E. -/
def execLsr5E (s : State) : Host.Outcome State Fault Refusal := evaluate 0x5E s

/-- R149: `ROL` `ZeroPage`, opcode 0x26. -/
def execRol26 (s : State) : Host.Outcome State Fault Refusal := evaluate 0x26 s

/-- R149: `ROL` `Accumulator`, opcode 0x2A. -/
def execRol2A (s : State) : Host.Outcome State Fault Refusal := evaluate 0x2A s

/-- R149: `ROL` `Absolute`, opcode 0x2E. -/
def execRol2E (s : State) : Host.Outcome State Fault Refusal := evaluate 0x2E s

/-- R149: `ROL` `ZeroPageX`, opcode 0x36. -/
def execRol36 (s : State) : Host.Outcome State Fault Refusal := evaluate 0x36 s

/-- R149: `ROL` `AbsoluteX`, opcode 0x3E. -/
def execRol3E (s : State) : Host.Outcome State Fault Refusal := evaluate 0x3E s

/-- R150: `ROR` `ZeroPage`, opcode 0x66. -/
def execRor66 (s : State) : Host.Outcome State Fault Refusal := evaluate 0x66 s

/-- R150: `ROR` `Accumulator`, opcode 0x6A. -/
def execRor6A (s : State) : Host.Outcome State Fault Refusal := evaluate 0x6A s

/-- R150: `ROR` `Absolute`, opcode 0x6E. -/
def execRor6E (s : State) : Host.Outcome State Fault Refusal := evaluate 0x6E s

/-- R150: `ROR` `ZeroPageX`, opcode 0x76. -/
def execRor76 (s : State) : Host.Outcome State Fault Refusal := evaluate 0x76 s

/-- R150: `ROR` `AbsoluteX`, opcode 0x7E. -/
def execRor7E (s : State) : Host.Outcome State Fault Refusal := evaluate 0x7E s

end Sys2Proof.Machine
end

