-- ==== Sys2Proof/Machine/ControlFlow.lean ====
section
/-! DEFINITION. What the block does with the branch, jump, call, return and break instructions (R151 to R163): each presents its
opcode byte, and `evaluate` gives the descriptor or the sentinel, and the cost (R91, R93, R101). -/

namespace Sys2Proof.Machine

/-- R151: `BCC` `Relative`, opcode 0x90. -/
def execBcc90 (s : State) : Host.Outcome State Fault Refusal := evaluate 0x90 s

/-- R152: `BCS` `Relative`, opcode 0xB0. -/
def execBcsB0 (s : State) : Host.Outcome State Fault Refusal := evaluate 0xB0 s

/-- R153: `BEQ` `Relative`, opcode 0xF0. -/
def execBeqF0 (s : State) : Host.Outcome State Fault Refusal := evaluate 0xF0 s

/-- R154: `BMI` `Relative`, opcode 0x30. -/
def execBmi30 (s : State) : Host.Outcome State Fault Refusal := evaluate 0x30 s

/-- R155: `BNE` `Relative`, opcode 0xD0. -/
def execBneD0 (s : State) : Host.Outcome State Fault Refusal := evaluate 0xD0 s

/-- R156: `BPL` `Relative`, opcode 0x10. -/
def execBpl10 (s : State) : Host.Outcome State Fault Refusal := evaluate 0x10 s

/-- R157: `BVC` `Relative`, opcode 0x50. -/
def execBvc50 (s : State) : Host.Outcome State Fault Refusal := evaluate 0x50 s

/-- R158: `BVS` `Relative`, opcode 0x70. -/
def execBvs70 (s : State) : Host.Outcome State Fault Refusal := evaluate 0x70 s

/-- R159: `JMP` `Absolute`, opcode 0x4C. -/
def execJmp4C (s : State) : Host.Outcome State Fault Refusal := evaluate 0x4C s

/-- R159: `JMP` `Indirect`, opcode 0x6C. -/
def execJmp6C (s : State) : Host.Outcome State Fault Refusal := evaluate 0x6C s

/-- R160: `JSR` `Absolute`, opcode 0x20. -/
def execJsr20 (s : State) : Host.Outcome State Fault Refusal := evaluate 0x20 s

/-- R161: `RTS` `Implied`, opcode 0x60. -/
def execRts60 (s : State) : Host.Outcome State Fault Refusal := evaluate 0x60 s

/-- R162: `RTI` `Implied`, opcode 0x40. -/
def execRti40 (s : State) : Host.Outcome State Fault Refusal := evaluate 0x40 s

/-- R163: `BRK` `Implied`, opcode 0x00. -/
def execBrk00 (s : State) : Host.Outcome State Fault Refusal := evaluate 0x00 s

end Sys2Proof.Machine
end

