-- ==== Sys2Proof/Machine/LoadStore.lean ====
section
/-! DEFINITION. What the block does with the load, store and transfer instructions (R120 to R131): each presents its
opcode byte, and `evaluate` gives the descriptor or the sentinel, and the cost (R91, R93, R101). -/

namespace Sys2Proof.Machine

/-- R120: `LDA` `IndirectX`, opcode 0xA1. -/
def execLdaA1 (s : State) : Host.Outcome State Fault Refusal := evaluate 0xA1 s

/-- R120: `LDA` `ZeroPage`, opcode 0xA5. -/
def execLdaA5 (s : State) : Host.Outcome State Fault Refusal := evaluate 0xA5 s

/-- R120: `LDA` `Immediate`, opcode 0xA9. -/
def execLdaA9 (s : State) : Host.Outcome State Fault Refusal := evaluate 0xA9 s

/-- R120: `LDA` `Absolute`, opcode 0xAD. -/
def execLdaAD (s : State) : Host.Outcome State Fault Refusal := evaluate 0xAD s

/-- R120: `LDA` `IndirectY`, opcode 0xB1. -/
def execLdaB1 (s : State) : Host.Outcome State Fault Refusal := evaluate 0xB1 s

/-- R120: `LDA` `ZeroPageX`, opcode 0xB5. -/
def execLdaB5 (s : State) : Host.Outcome State Fault Refusal := evaluate 0xB5 s

/-- R120: `LDA` `AbsoluteY`, opcode 0xB9. -/
def execLdaB9 (s : State) : Host.Outcome State Fault Refusal := evaluate 0xB9 s

/-- R120: `LDA` `AbsoluteX`, opcode 0xBD. -/
def execLdaBD (s : State) : Host.Outcome State Fault Refusal := evaluate 0xBD s

/-- R121: `LDX` `Immediate`, opcode 0xA2. -/
def execLdxA2 (s : State) : Host.Outcome State Fault Refusal := evaluate 0xA2 s

/-- R121: `LDX` `ZeroPage`, opcode 0xA6. -/
def execLdxA6 (s : State) : Host.Outcome State Fault Refusal := evaluate 0xA6 s

/-- R121: `LDX` `Absolute`, opcode 0xAE. -/
def execLdxAE (s : State) : Host.Outcome State Fault Refusal := evaluate 0xAE s

/-- R121: `LDX` `ZeroPageY`, opcode 0xB6. -/
def execLdxB6 (s : State) : Host.Outcome State Fault Refusal := evaluate 0xB6 s

/-- R121: `LDX` `AbsoluteY`, opcode 0xBE. -/
def execLdxBE (s : State) : Host.Outcome State Fault Refusal := evaluate 0xBE s

/-- R122: `LDY` `Immediate`, opcode 0xA0. -/
def execLdyA0 (s : State) : Host.Outcome State Fault Refusal := evaluate 0xA0 s

/-- R122: `LDY` `ZeroPage`, opcode 0xA4. -/
def execLdyA4 (s : State) : Host.Outcome State Fault Refusal := evaluate 0xA4 s

/-- R122: `LDY` `Absolute`, opcode 0xAC. -/
def execLdyAC (s : State) : Host.Outcome State Fault Refusal := evaluate 0xAC s

/-- R122: `LDY` `ZeroPageX`, opcode 0xB4. -/
def execLdyB4 (s : State) : Host.Outcome State Fault Refusal := evaluate 0xB4 s

/-- R122: `LDY` `AbsoluteX`, opcode 0xBC. -/
def execLdyBC (s : State) : Host.Outcome State Fault Refusal := evaluate 0xBC s

/-- R123: `STA` `IndirectX`, opcode 0x81. -/
def execSta81 (s : State) : Host.Outcome State Fault Refusal := evaluate 0x81 s

/-- R123: `STA` `ZeroPage`, opcode 0x85. -/
def execSta85 (s : State) : Host.Outcome State Fault Refusal := evaluate 0x85 s

/-- R123: `STA` `Absolute`, opcode 0x8D. -/
def execSta8D (s : State) : Host.Outcome State Fault Refusal := evaluate 0x8D s

/-- R123: `STA` `IndirectY`, opcode 0x91. -/
def execSta91 (s : State) : Host.Outcome State Fault Refusal := evaluate 0x91 s

/-- R123: `STA` `ZeroPageX`, opcode 0x95. -/
def execSta95 (s : State) : Host.Outcome State Fault Refusal := evaluate 0x95 s

/-- R123: `STA` `AbsoluteY`, opcode 0x99. -/
def execSta99 (s : State) : Host.Outcome State Fault Refusal := evaluate 0x99 s

/-- R123: `STA` `AbsoluteX`, opcode 0x9D. -/
def execSta9D (s : State) : Host.Outcome State Fault Refusal := evaluate 0x9D s

/-- R124: `STX` `ZeroPage`, opcode 0x86. -/
def execStx86 (s : State) : Host.Outcome State Fault Refusal := evaluate 0x86 s

/-- R124: `STX` `Absolute`, opcode 0x8E. -/
def execStx8E (s : State) : Host.Outcome State Fault Refusal := evaluate 0x8E s

/-- R124: `STX` `ZeroPageY`, opcode 0x96. -/
def execStx96 (s : State) : Host.Outcome State Fault Refusal := evaluate 0x96 s

/-- R125: `STY` `ZeroPage`, opcode 0x84. -/
def execSty84 (s : State) : Host.Outcome State Fault Refusal := evaluate 0x84 s

/-- R125: `STY` `Absolute`, opcode 0x8C. -/
def execSty8C (s : State) : Host.Outcome State Fault Refusal := evaluate 0x8C s

/-- R125: `STY` `ZeroPageX`, opcode 0x94. -/
def execSty94 (s : State) : Host.Outcome State Fault Refusal := evaluate 0x94 s

/-- R126: `TAX` `Implied`, opcode 0xAA. -/
def execTaxAA (s : State) : Host.Outcome State Fault Refusal := evaluate 0xAA s

/-- R127: `TAY` `Implied`, opcode 0xA8. -/
def execTayA8 (s : State) : Host.Outcome State Fault Refusal := evaluate 0xA8 s

/-- R128: `TSX` `Implied`, opcode 0xBA. -/
def execTsxBA (s : State) : Host.Outcome State Fault Refusal := evaluate 0xBA s

/-- R129: `TXA` `Implied`, opcode 0x8A. -/
def execTxa8A (s : State) : Host.Outcome State Fault Refusal := evaluate 0x8A s

/-- R130: `TXS` `Implied`, opcode 0x9A. -/
def execTxs9A (s : State) : Host.Outcome State Fault Refusal := evaluate 0x9A s

/-- R131: `TYA` `Implied`, opcode 0x98. -/
def execTya98 (s : State) : Host.Outcome State Fault Refusal := evaluate 0x98 s

end Sys2Proof.Machine
end

