-- ==== Sys2Proof/Machine/StackFlagsNop.lean ====
section
/-! DEFINITION. What the block does with the stack, flag and no-operation instructions (R164 to R175): each presents its
opcode byte, and `evaluate` gives the descriptor or the sentinel, and the cost (R91, R93, R101). -/

namespace Sys2Proof.Machine

/-- R164: `PHA` `Implied`, opcode 0x48. -/
def execPha48 (s : State) : Host.Outcome State Fault Refusal := evaluate 0x48 s

/-- R165: `PHP` `Implied`, opcode 0x08. -/
def execPhp08 (s : State) : Host.Outcome State Fault Refusal := evaluate 0x08 s

/-- R166: `PLA` `Implied`, opcode 0x68. -/
def execPla68 (s : State) : Host.Outcome State Fault Refusal := evaluate 0x68 s

/-- R167: `PLP` `Implied`, opcode 0x28. -/
def execPlp28 (s : State) : Host.Outcome State Fault Refusal := evaluate 0x28 s

/-- R168: `CLC` `Implied`, opcode 0x18. -/
def execClc18 (s : State) : Host.Outcome State Fault Refusal := evaluate 0x18 s

/-- R169: `CLD` `Implied`, opcode 0xD8. -/
def execCldD8 (s : State) : Host.Outcome State Fault Refusal := evaluate 0xD8 s

/-- R170: `CLI` `Implied`, opcode 0x58. -/
def execCli58 (s : State) : Host.Outcome State Fault Refusal := evaluate 0x58 s

/-- R171: `CLV` `Implied`, opcode 0xB8. -/
def execClvB8 (s : State) : Host.Outcome State Fault Refusal := evaluate 0xB8 s

/-- R172: `SEC` `Implied`, opcode 0x38. -/
def execSec38 (s : State) : Host.Outcome State Fault Refusal := evaluate 0x38 s

/-- R173: `SED` `Implied`, opcode 0xF8. -/
def execSedF8 (s : State) : Host.Outcome State Fault Refusal := evaluate 0xF8 s

/-- R174: `SEI` `Implied`, opcode 0x78. -/
def execSei78 (s : State) : Host.Outcome State Fault Refusal := evaluate 0x78 s

/-- R175: `NOP` `ZeroPage`, opcode 0x04. -/
def execNop04 (s : State) : Host.Outcome State Fault Refusal := evaluate 0x04 s

/-- R175: `NOP` `Absolute`, opcode 0x0C. -/
def execNop0C (s : State) : Host.Outcome State Fault Refusal := evaluate 0x0C s

/-- R175: `NOP` `ZeroPageX`, opcode 0x14. -/
def execNop14 (s : State) : Host.Outcome State Fault Refusal := evaluate 0x14 s

/-- R175: `NOP` `Implied`, opcode 0x1A. -/
def execNop1A (s : State) : Host.Outcome State Fault Refusal := evaluate 0x1A s

/-- R175: `NOP` `AbsoluteX`, opcode 0x1C. -/
def execNop1C (s : State) : Host.Outcome State Fault Refusal := evaluate 0x1C s

/-- R175: `NOP` `ZeroPageX`, opcode 0x34. -/
def execNop34 (s : State) : Host.Outcome State Fault Refusal := evaluate 0x34 s

/-- R175: `NOP` `Implied`, opcode 0x3A. -/
def execNop3A (s : State) : Host.Outcome State Fault Refusal := evaluate 0x3A s

/-- R175: `NOP` `AbsoluteX`, opcode 0x3C. -/
def execNop3C (s : State) : Host.Outcome State Fault Refusal := evaluate 0x3C s

/-- R175: `NOP` `ZeroPage`, opcode 0x44. -/
def execNop44 (s : State) : Host.Outcome State Fault Refusal := evaluate 0x44 s

/-- R175: `NOP` `ZeroPageX`, opcode 0x54. -/
def execNop54 (s : State) : Host.Outcome State Fault Refusal := evaluate 0x54 s

/-- R175: `NOP` `Implied`, opcode 0x5A. -/
def execNop5A (s : State) : Host.Outcome State Fault Refusal := evaluate 0x5A s

/-- R175: `NOP` `AbsoluteX`, opcode 0x5C. -/
def execNop5C (s : State) : Host.Outcome State Fault Refusal := evaluate 0x5C s

/-- R175: `NOP` `ZeroPage`, opcode 0x64. -/
def execNop64 (s : State) : Host.Outcome State Fault Refusal := evaluate 0x64 s

/-- R175: `NOP` `ZeroPageX`, opcode 0x74. -/
def execNop74 (s : State) : Host.Outcome State Fault Refusal := evaluate 0x74 s

/-- R175: `NOP` `Implied`, opcode 0x7A. -/
def execNop7A (s : State) : Host.Outcome State Fault Refusal := evaluate 0x7A s

/-- R175: `NOP` `AbsoluteX`, opcode 0x7C. -/
def execNop7C (s : State) : Host.Outcome State Fault Refusal := evaluate 0x7C s

/-- R175: `NOP` `Immediate`, opcode 0x80. -/
def execNop80 (s : State) : Host.Outcome State Fault Refusal := evaluate 0x80 s

/-- R175: `NOP` `Immediate`, opcode 0x82. -/
def execNop82 (s : State) : Host.Outcome State Fault Refusal := evaluate 0x82 s

/-- R175: `NOP` `Immediate`, opcode 0x89. -/
def execNop89 (s : State) : Host.Outcome State Fault Refusal := evaluate 0x89 s

/-- R175: `NOP` `Immediate`, opcode 0xC2. -/
def execNopC2 (s : State) : Host.Outcome State Fault Refusal := evaluate 0xC2 s

/-- R175: `NOP` `ZeroPageX`, opcode 0xD4. -/
def execNopD4 (s : State) : Host.Outcome State Fault Refusal := evaluate 0xD4 s

/-- R175: `NOP` `Implied`, opcode 0xDA. -/
def execNopDA (s : State) : Host.Outcome State Fault Refusal := evaluate 0xDA s

/-- R175: `NOP` `AbsoluteX`, opcode 0xDC. -/
def execNopDC (s : State) : Host.Outcome State Fault Refusal := evaluate 0xDC s

/-- R175: `NOP` `Immediate`, opcode 0xE2. -/
def execNopE2 (s : State) : Host.Outcome State Fault Refusal := evaluate 0xE2 s

/-- R175: `NOP` `Implied`, opcode 0xEA. -/
def execNopEA (s : State) : Host.Outcome State Fault Refusal := evaluate 0xEA s

/-- R175: `NOP` `ZeroPageX`, opcode 0xF4. -/
def execNopF4 (s : State) : Host.Outcome State Fault Refusal := evaluate 0xF4 s

/-- R175: `NOP` `Implied`, opcode 0xFA. -/
def execNopFA (s : State) : Host.Outcome State Fault Refusal := evaluate 0xFA s

/-- R175: `NOP` `AbsoluteX`, opcode 0xFC. -/
def execNopFC (s : State) : Host.Outcome State Fault Refusal := evaluate 0xFC s

end Sys2Proof.Machine
end

