-- ==== Sys2Proof/Machine/Undocumented.lean ====
section
/-! DEFINITION. What the block does with the undocumented instructions (R176 to R195): each presents its
opcode byte, and `evaluate` gives the descriptor or the sentinel, and the cost (R91, R93, R101). -/

namespace Sys2Proof.Machine

/-- R176: `ALR` `Immediate`, opcode 0x4B. -/
def execAlr4B (s : State) : Host.Outcome State Fault Refusal := evaluate 0x4B s

/-- R177: `ANC` `Immediate`, opcode 0x0B. -/
def execAnc0B (s : State) : Host.Outcome State Fault Refusal := evaluate 0x0B s

/-- R177: `ANC` `Immediate`, opcode 0x2B. -/
def execAnc2B (s : State) : Host.Outcome State Fault Refusal := evaluate 0x2B s

/-- R178: `ANE` `Immediate`, opcode 0x8B. -/
def execAne8B (s : State) : Host.Outcome State Fault Refusal := evaluate 0x8B s

/-- R179: `ARR` `Immediate`, opcode 0x6B. -/
def execArr6B (s : State) : Host.Outcome State Fault Refusal := evaluate 0x6B s

/-- R180: `DCP` `IndirectX`, opcode 0xC3. -/
def execDcpC3 (s : State) : Host.Outcome State Fault Refusal := evaluate 0xC3 s

/-- R180: `DCP` `ZeroPage`, opcode 0xC7. -/
def execDcpC7 (s : State) : Host.Outcome State Fault Refusal := evaluate 0xC7 s

/-- R180: `DCP` `Absolute`, opcode 0xCF. -/
def execDcpCF (s : State) : Host.Outcome State Fault Refusal := evaluate 0xCF s

/-- R180: `DCP` `IndirectY`, opcode 0xD3. -/
def execDcpD3 (s : State) : Host.Outcome State Fault Refusal := evaluate 0xD3 s

/-- R180: `DCP` `ZeroPageX`, opcode 0xD7. -/
def execDcpD7 (s : State) : Host.Outcome State Fault Refusal := evaluate 0xD7 s

/-- R180: `DCP` `AbsoluteY`, opcode 0xDB. -/
def execDcpDB (s : State) : Host.Outcome State Fault Refusal := evaluate 0xDB s

/-- R180: `DCP` `AbsoluteX`, opcode 0xDF. -/
def execDcpDF (s : State) : Host.Outcome State Fault Refusal := evaluate 0xDF s

/-- R181: `ISC` `IndirectX`, opcode 0xE3. -/
def execIscE3 (s : State) : Host.Outcome State Fault Refusal := evaluate 0xE3 s

/-- R181: `ISC` `ZeroPage`, opcode 0xE7. -/
def execIscE7 (s : State) : Host.Outcome State Fault Refusal := evaluate 0xE7 s

/-- R181: `ISC` `Absolute`, opcode 0xEF. -/
def execIscEF (s : State) : Host.Outcome State Fault Refusal := evaluate 0xEF s

/-- R181: `ISC` `IndirectY`, opcode 0xF3. -/
def execIscF3 (s : State) : Host.Outcome State Fault Refusal := evaluate 0xF3 s

/-- R181: `ISC` `ZeroPageX`, opcode 0xF7. -/
def execIscF7 (s : State) : Host.Outcome State Fault Refusal := evaluate 0xF7 s

/-- R181: `ISC` `AbsoluteY`, opcode 0xFB. -/
def execIscFB (s : State) : Host.Outcome State Fault Refusal := evaluate 0xFB s

/-- R181: `ISC` `AbsoluteX`, opcode 0xFF. -/
def execIscFF (s : State) : Host.Outcome State Fault Refusal := evaluate 0xFF s

/-- R182: `JAM` `Implied`, opcode 0x02. -/
def execJam02 (s : State) : Host.Outcome State Fault Refusal := evaluate 0x02 s

/-- R182: `JAM` `Implied`, opcode 0x12. -/
def execJam12 (s : State) : Host.Outcome State Fault Refusal := evaluate 0x12 s

/-- R182: `JAM` `Implied`, opcode 0x22. -/
def execJam22 (s : State) : Host.Outcome State Fault Refusal := evaluate 0x22 s

/-- R182: `JAM` `Implied`, opcode 0x32. -/
def execJam32 (s : State) : Host.Outcome State Fault Refusal := evaluate 0x32 s

/-- R182: `JAM` `Implied`, opcode 0x42. -/
def execJam42 (s : State) : Host.Outcome State Fault Refusal := evaluate 0x42 s

/-- R182: `JAM` `Implied`, opcode 0x52. -/
def execJam52 (s : State) : Host.Outcome State Fault Refusal := evaluate 0x52 s

/-- R182: `JAM` `Implied`, opcode 0x62. -/
def execJam62 (s : State) : Host.Outcome State Fault Refusal := evaluate 0x62 s

/-- R182: `JAM` `Implied`, opcode 0x72. -/
def execJam72 (s : State) : Host.Outcome State Fault Refusal := evaluate 0x72 s

/-- R182: `JAM` `Implied`, opcode 0x92. -/
def execJam92 (s : State) : Host.Outcome State Fault Refusal := evaluate 0x92 s

/-- R182: `JAM` `Implied`, opcode 0xB2. -/
def execJamB2 (s : State) : Host.Outcome State Fault Refusal := evaluate 0xB2 s

/-- R182: `JAM` `Implied`, opcode 0xD2. -/
def execJamD2 (s : State) : Host.Outcome State Fault Refusal := evaluate 0xD2 s

/-- R182: `JAM` `Implied`, opcode 0xF2. -/
def execJamF2 (s : State) : Host.Outcome State Fault Refusal := evaluate 0xF2 s

/-- R183: `LAS` `AbsoluteY`, opcode 0xBB. -/
def execLasBB (s : State) : Host.Outcome State Fault Refusal := evaluate 0xBB s

/-- R184: `LAX` `IndirectX`, opcode 0xA3. -/
def execLaxA3 (s : State) : Host.Outcome State Fault Refusal := evaluate 0xA3 s

/-- R184: `LAX` `ZeroPage`, opcode 0xA7. -/
def execLaxA7 (s : State) : Host.Outcome State Fault Refusal := evaluate 0xA7 s

/-- R184: `LAX` `Absolute`, opcode 0xAF. -/
def execLaxAF (s : State) : Host.Outcome State Fault Refusal := evaluate 0xAF s

/-- R184: `LAX` `IndirectY`, opcode 0xB3. -/
def execLaxB3 (s : State) : Host.Outcome State Fault Refusal := evaluate 0xB3 s

/-- R184: `LAX` `ZeroPageY`, opcode 0xB7. -/
def execLaxB7 (s : State) : Host.Outcome State Fault Refusal := evaluate 0xB7 s

/-- R184: `LAX` `AbsoluteY`, opcode 0xBF. -/
def execLaxBF (s : State) : Host.Outcome State Fault Refusal := evaluate 0xBF s

/-- R185: `LXA` `Immediate`, opcode 0xAB. -/
def execLxaAB (s : State) : Host.Outcome State Fault Refusal := evaluate 0xAB s

/-- R186: `RLA` `IndirectX`, opcode 0x23. -/
def execRla23 (s : State) : Host.Outcome State Fault Refusal := evaluate 0x23 s

/-- R186: `RLA` `ZeroPage`, opcode 0x27. -/
def execRla27 (s : State) : Host.Outcome State Fault Refusal := evaluate 0x27 s

/-- R186: `RLA` `Absolute`, opcode 0x2F. -/
def execRla2F (s : State) : Host.Outcome State Fault Refusal := evaluate 0x2F s

/-- R186: `RLA` `IndirectY`, opcode 0x33. -/
def execRla33 (s : State) : Host.Outcome State Fault Refusal := evaluate 0x33 s

/-- R186: `RLA` `ZeroPageX`, opcode 0x37. -/
def execRla37 (s : State) : Host.Outcome State Fault Refusal := evaluate 0x37 s

/-- R186: `RLA` `AbsoluteY`, opcode 0x3B. -/
def execRla3B (s : State) : Host.Outcome State Fault Refusal := evaluate 0x3B s

/-- R186: `RLA` `AbsoluteX`, opcode 0x3F. -/
def execRla3F (s : State) : Host.Outcome State Fault Refusal := evaluate 0x3F s

/-- R187: `RRA` `IndirectX`, opcode 0x63. -/
def execRra63 (s : State) : Host.Outcome State Fault Refusal := evaluate 0x63 s

/-- R187: `RRA` `ZeroPage`, opcode 0x67. -/
def execRra67 (s : State) : Host.Outcome State Fault Refusal := evaluate 0x67 s

/-- R187: `RRA` `Absolute`, opcode 0x6F. -/
def execRra6F (s : State) : Host.Outcome State Fault Refusal := evaluate 0x6F s

/-- R187: `RRA` `IndirectY`, opcode 0x73. -/
def execRra73 (s : State) : Host.Outcome State Fault Refusal := evaluate 0x73 s

/-- R187: `RRA` `ZeroPageX`, opcode 0x77. -/
def execRra77 (s : State) : Host.Outcome State Fault Refusal := evaluate 0x77 s

/-- R187: `RRA` `AbsoluteY`, opcode 0x7B. -/
def execRra7B (s : State) : Host.Outcome State Fault Refusal := evaluate 0x7B s

/-- R187: `RRA` `AbsoluteX`, opcode 0x7F. -/
def execRra7F (s : State) : Host.Outcome State Fault Refusal := evaluate 0x7F s

/-- R188: `SAX` `IndirectX`, opcode 0x83. -/
def execSax83 (s : State) : Host.Outcome State Fault Refusal := evaluate 0x83 s

/-- R188: `SAX` `ZeroPage`, opcode 0x87. -/
def execSax87 (s : State) : Host.Outcome State Fault Refusal := evaluate 0x87 s

/-- R188: `SAX` `Absolute`, opcode 0x8F. -/
def execSax8F (s : State) : Host.Outcome State Fault Refusal := evaluate 0x8F s

/-- R188: `SAX` `ZeroPageY`, opcode 0x97. -/
def execSax97 (s : State) : Host.Outcome State Fault Refusal := evaluate 0x97 s

/-- R189: `SBX` `Immediate`, opcode 0xCB. -/
def execSbxCB (s : State) : Host.Outcome State Fault Refusal := evaluate 0xCB s

/-- R190: `SHA` `IndirectY`, opcode 0x93. -/
def execSha93 (s : State) : Host.Outcome State Fault Refusal := evaluate 0x93 s

/-- R190: `SHA` `AbsoluteY`, opcode 0x9F. -/
def execSha9F (s : State) : Host.Outcome State Fault Refusal := evaluate 0x9F s

/-- R191: `SHX` `AbsoluteY`, opcode 0x9E. -/
def execShx9E (s : State) : Host.Outcome State Fault Refusal := evaluate 0x9E s

/-- R192: `SHY` `AbsoluteX`, opcode 0x9C. -/
def execShy9C (s : State) : Host.Outcome State Fault Refusal := evaluate 0x9C s

/-- R193: `SLO` `IndirectX`, opcode 0x03. -/
def execSlo03 (s : State) : Host.Outcome State Fault Refusal := evaluate 0x03 s

/-- R193: `SLO` `ZeroPage`, opcode 0x07. -/
def execSlo07 (s : State) : Host.Outcome State Fault Refusal := evaluate 0x07 s

/-- R193: `SLO` `Absolute`, opcode 0x0F. -/
def execSlo0F (s : State) : Host.Outcome State Fault Refusal := evaluate 0x0F s

/-- R193: `SLO` `IndirectY`, opcode 0x13. -/
def execSlo13 (s : State) : Host.Outcome State Fault Refusal := evaluate 0x13 s

/-- R193: `SLO` `ZeroPageX`, opcode 0x17. -/
def execSlo17 (s : State) : Host.Outcome State Fault Refusal := evaluate 0x17 s

/-- R193: `SLO` `AbsoluteY`, opcode 0x1B. -/
def execSlo1B (s : State) : Host.Outcome State Fault Refusal := evaluate 0x1B s

/-- R193: `SLO` `AbsoluteX`, opcode 0x1F. -/
def execSlo1F (s : State) : Host.Outcome State Fault Refusal := evaluate 0x1F s

/-- R194: `SRE` `IndirectX`, opcode 0x43. -/
def execSre43 (s : State) : Host.Outcome State Fault Refusal := evaluate 0x43 s

/-- R194: `SRE` `ZeroPage`, opcode 0x47. -/
def execSre47 (s : State) : Host.Outcome State Fault Refusal := evaluate 0x47 s

/-- R194: `SRE` `Absolute`, opcode 0x4F. -/
def execSre4F (s : State) : Host.Outcome State Fault Refusal := evaluate 0x4F s

/-- R194: `SRE` `IndirectY`, opcode 0x53. -/
def execSre53 (s : State) : Host.Outcome State Fault Refusal := evaluate 0x53 s

/-- R194: `SRE` `ZeroPageX`, opcode 0x57. -/
def execSre57 (s : State) : Host.Outcome State Fault Refusal := evaluate 0x57 s

/-- R194: `SRE` `AbsoluteY`, opcode 0x5B. -/
def execSre5B (s : State) : Host.Outcome State Fault Refusal := evaluate 0x5B s

/-- R194: `SRE` `AbsoluteX`, opcode 0x5F. -/
def execSre5F (s : State) : Host.Outcome State Fault Refusal := evaluate 0x5F s

/-- R195: `TAS` `AbsoluteY`, opcode 0x9B. -/
def execTas9B (s : State) : Host.Outcome State Fault Refusal := evaluate 0x9B s

end Sys2Proof.Machine
end

