-- ==== Sys2Proof/Machine/Dispatch.lean ====
section
/-! DEFINITION. One arm per instruction: the meaning of each row of the opcode table. -/

namespace Sys2Proof.Machine

def exec (i : Instr) (s : State) : Host.Outcome State Fault Refusal :=
  match i with
  -- R120 LDA
  | .ldaA1 => Sys2Proof.Machine.execLdaA1 s
  | .ldaA5 => Sys2Proof.Machine.execLdaA5 s
  | .ldaA9 => Sys2Proof.Machine.execLdaA9 s
  | .ldaAD => Sys2Proof.Machine.execLdaAD s
  | .ldaB1 => Sys2Proof.Machine.execLdaB1 s
  | .ldaB5 => Sys2Proof.Machine.execLdaB5 s
  | .ldaB9 => Sys2Proof.Machine.execLdaB9 s
  | .ldaBD => Sys2Proof.Machine.execLdaBD s
  -- R121 LDX
  | .ldxA2 => Sys2Proof.Machine.execLdxA2 s
  | .ldxA6 => Sys2Proof.Machine.execLdxA6 s
  | .ldxAE => Sys2Proof.Machine.execLdxAE s
  | .ldxB6 => Sys2Proof.Machine.execLdxB6 s
  | .ldxBE => Sys2Proof.Machine.execLdxBE s
  -- R122 LDY
  | .ldyA0 => Sys2Proof.Machine.execLdyA0 s
  | .ldyA4 => Sys2Proof.Machine.execLdyA4 s
  | .ldyAC => Sys2Proof.Machine.execLdyAC s
  | .ldyB4 => Sys2Proof.Machine.execLdyB4 s
  | .ldyBC => Sys2Proof.Machine.execLdyBC s
  -- R123 STA
  | .sta81 => Sys2Proof.Machine.execSta81 s
  | .sta85 => Sys2Proof.Machine.execSta85 s
  | .sta8D => Sys2Proof.Machine.execSta8D s
  | .sta91 => Sys2Proof.Machine.execSta91 s
  | .sta95 => Sys2Proof.Machine.execSta95 s
  | .sta99 => Sys2Proof.Machine.execSta99 s
  | .sta9D => Sys2Proof.Machine.execSta9D s
  -- R124 STX
  | .stx86 => Sys2Proof.Machine.execStx86 s
  | .stx8E => Sys2Proof.Machine.execStx8E s
  | .stx96 => Sys2Proof.Machine.execStx96 s
  -- R125 STY
  | .sty84 => Sys2Proof.Machine.execSty84 s
  | .sty8C => Sys2Proof.Machine.execSty8C s
  | .sty94 => Sys2Proof.Machine.execSty94 s
  -- R126 TAX
  | .taxAA => Sys2Proof.Machine.execTaxAA s
  -- R127 TAY
  | .tayA8 => Sys2Proof.Machine.execTayA8 s
  -- R128 TSX
  | .tsxBA => Sys2Proof.Machine.execTsxBA s
  -- R129 TXA
  | .txa8A => Sys2Proof.Machine.execTxa8A s
  -- R130 TXS
  | .txs9A => Sys2Proof.Machine.execTxs9A s
  -- R131 TYA
  | .tya98 => Sys2Proof.Machine.execTya98 s
  -- R132 ADC
  | .adc61 => Sys2Proof.Machine.execAdc61 s
  | .adc65 => Sys2Proof.Machine.execAdc65 s
  | .adc69 => Sys2Proof.Machine.execAdc69 s
  | .adc6D => Sys2Proof.Machine.execAdc6D s
  | .adc71 => Sys2Proof.Machine.execAdc71 s
  | .adc75 => Sys2Proof.Machine.execAdc75 s
  | .adc79 => Sys2Proof.Machine.execAdc79 s
  | .adc7D => Sys2Proof.Machine.execAdc7D s
  -- R133 SBC
  | .sbcE1 => Sys2Proof.Machine.execSbcE1 s
  | .sbcE5 => Sys2Proof.Machine.execSbcE5 s
  | .sbcE9 => Sys2Proof.Machine.execSbcE9 s
  | .sbcEB => Sys2Proof.Machine.execSbcEB s
  | .sbcED => Sys2Proof.Machine.execSbcED s
  | .sbcF1 => Sys2Proof.Machine.execSbcF1 s
  | .sbcF5 => Sys2Proof.Machine.execSbcF5 s
  | .sbcF9 => Sys2Proof.Machine.execSbcF9 s
  | .sbcFD => Sys2Proof.Machine.execSbcFD s
  -- R134 AND
  | .and21 => Sys2Proof.Machine.execAnd21 s
  | .and25 => Sys2Proof.Machine.execAnd25 s
  | .and29 => Sys2Proof.Machine.execAnd29 s
  | .and2D => Sys2Proof.Machine.execAnd2D s
  | .and31 => Sys2Proof.Machine.execAnd31 s
  | .and35 => Sys2Proof.Machine.execAnd35 s
  | .and39 => Sys2Proof.Machine.execAnd39 s
  | .and3D => Sys2Proof.Machine.execAnd3D s
  -- R135 ORA
  | .ora01 => Sys2Proof.Machine.execOra01 s
  | .ora05 => Sys2Proof.Machine.execOra05 s
  | .ora09 => Sys2Proof.Machine.execOra09 s
  | .ora0D => Sys2Proof.Machine.execOra0D s
  | .ora11 => Sys2Proof.Machine.execOra11 s
  | .ora15 => Sys2Proof.Machine.execOra15 s
  | .ora19 => Sys2Proof.Machine.execOra19 s
  | .ora1D => Sys2Proof.Machine.execOra1D s
  -- R136 EOR
  | .eor41 => Sys2Proof.Machine.execEor41 s
  | .eor45 => Sys2Proof.Machine.execEor45 s
  | .eor49 => Sys2Proof.Machine.execEor49 s
  | .eor4D => Sys2Proof.Machine.execEor4D s
  | .eor51 => Sys2Proof.Machine.execEor51 s
  | .eor55 => Sys2Proof.Machine.execEor55 s
  | .eor59 => Sys2Proof.Machine.execEor59 s
  | .eor5D => Sys2Proof.Machine.execEor5D s
  -- R137 CMP
  | .cmpC1 => Sys2Proof.Machine.execCmpC1 s
  | .cmpC5 => Sys2Proof.Machine.execCmpC5 s
  | .cmpC9 => Sys2Proof.Machine.execCmpC9 s
  | .cmpCD => Sys2Proof.Machine.execCmpCD s
  | .cmpD1 => Sys2Proof.Machine.execCmpD1 s
  | .cmpD5 => Sys2Proof.Machine.execCmpD5 s
  | .cmpD9 => Sys2Proof.Machine.execCmpD9 s
  | .cmpDD => Sys2Proof.Machine.execCmpDD s
  -- R138 CPX
  | .cpxE0 => Sys2Proof.Machine.execCpxE0 s
  | .cpxE4 => Sys2Proof.Machine.execCpxE4 s
  | .cpxEC => Sys2Proof.Machine.execCpxEC s
  -- R139 CPY
  | .cpyC0 => Sys2Proof.Machine.execCpyC0 s
  | .cpyC4 => Sys2Proof.Machine.execCpyC4 s
  | .cpyCC => Sys2Proof.Machine.execCpyCC s
  -- R140 BIT
  | .bit24 => Sys2Proof.Machine.execBit24 s
  | .bit2C => Sys2Proof.Machine.execBit2C s
  -- R141 INC
  | .incE6 => Sys2Proof.Machine.execIncE6 s
  | .incEE => Sys2Proof.Machine.execIncEE s
  | .incF6 => Sys2Proof.Machine.execIncF6 s
  | .incFE => Sys2Proof.Machine.execIncFE s
  -- R142 INX
  | .inxE8 => Sys2Proof.Machine.execInxE8 s
  -- R143 INY
  | .inyC8 => Sys2Proof.Machine.execInyC8 s
  -- R144 DEC
  | .decC6 => Sys2Proof.Machine.execDecC6 s
  | .decCE => Sys2Proof.Machine.execDecCE s
  | .decD6 => Sys2Proof.Machine.execDecD6 s
  | .decDE => Sys2Proof.Machine.execDecDE s
  -- R145 DEX
  | .dexCA => Sys2Proof.Machine.execDexCA s
  -- R146 DEY
  | .dey88 => Sys2Proof.Machine.execDey88 s
  -- R147 ASL
  | .asl06 => Sys2Proof.Machine.execAsl06 s
  | .asl0A => Sys2Proof.Machine.execAsl0A s
  | .asl0E => Sys2Proof.Machine.execAsl0E s
  | .asl16 => Sys2Proof.Machine.execAsl16 s
  | .asl1E => Sys2Proof.Machine.execAsl1E s
  -- R148 LSR
  | .lsr46 => Sys2Proof.Machine.execLsr46 s
  | .lsr4A => Sys2Proof.Machine.execLsr4A s
  | .lsr4E => Sys2Proof.Machine.execLsr4E s
  | .lsr56 => Sys2Proof.Machine.execLsr56 s
  | .lsr5E => Sys2Proof.Machine.execLsr5E s
  -- R149 ROL
  | .rol26 => Sys2Proof.Machine.execRol26 s
  | .rol2A => Sys2Proof.Machine.execRol2A s
  | .rol2E => Sys2Proof.Machine.execRol2E s
  | .rol36 => Sys2Proof.Machine.execRol36 s
  | .rol3E => Sys2Proof.Machine.execRol3E s
  -- R150 ROR
  | .ror66 => Sys2Proof.Machine.execRor66 s
  | .ror6A => Sys2Proof.Machine.execRor6A s
  | .ror6E => Sys2Proof.Machine.execRor6E s
  | .ror76 => Sys2Proof.Machine.execRor76 s
  | .ror7E => Sys2Proof.Machine.execRor7E s
  -- R151 BCC
  | .bcc90 => Sys2Proof.Machine.execBcc90 s
  -- R152 BCS
  | .bcsB0 => Sys2Proof.Machine.execBcsB0 s
  -- R153 BEQ
  | .beqF0 => Sys2Proof.Machine.execBeqF0 s
  -- R154 BMI
  | .bmi30 => Sys2Proof.Machine.execBmi30 s
  -- R155 BNE
  | .bneD0 => Sys2Proof.Machine.execBneD0 s
  -- R156 BPL
  | .bpl10 => Sys2Proof.Machine.execBpl10 s
  -- R157 BVC
  | .bvc50 => Sys2Proof.Machine.execBvc50 s
  -- R158 BVS
  | .bvs70 => Sys2Proof.Machine.execBvs70 s
  -- R159 JMP
  | .jmp4C => Sys2Proof.Machine.execJmp4C s
  | .jmp6C => Sys2Proof.Machine.execJmp6C s
  -- R160 JSR
  | .jsr20 => Sys2Proof.Machine.execJsr20 s
  -- R161 RTS
  | .rts60 => Sys2Proof.Machine.execRts60 s
  -- R162 RTI
  | .rti40 => Sys2Proof.Machine.execRti40 s
  -- R163 BRK
  | .brk00 => Sys2Proof.Machine.execBrk00 s
  -- R164 PHA
  | .pha48 => Sys2Proof.Machine.execPha48 s
  -- R165 PHP
  | .php08 => Sys2Proof.Machine.execPhp08 s
  -- R166 PLA
  | .pla68 => Sys2Proof.Machine.execPla68 s
  -- R167 PLP
  | .plp28 => Sys2Proof.Machine.execPlp28 s
  -- R168 CLC
  | .clc18 => Sys2Proof.Machine.execClc18 s
  -- R169 CLD
  | .cldD8 => Sys2Proof.Machine.execCldD8 s
  -- R170 CLI
  | .cli58 => Sys2Proof.Machine.execCli58 s
  -- R171 CLV
  | .clvB8 => Sys2Proof.Machine.execClvB8 s
  -- R172 SEC
  | .sec38 => Sys2Proof.Machine.execSec38 s
  -- R173 SED
  | .sedF8 => Sys2Proof.Machine.execSedF8 s
  -- R174 SEI
  | .sei78 => Sys2Proof.Machine.execSei78 s
  -- R175 NOP
  | .nop04 => Sys2Proof.Machine.execNop04 s
  | .nop0C => Sys2Proof.Machine.execNop0C s
  | .nop14 => Sys2Proof.Machine.execNop14 s
  | .nop1A => Sys2Proof.Machine.execNop1A s
  | .nop1C => Sys2Proof.Machine.execNop1C s
  | .nop34 => Sys2Proof.Machine.execNop34 s
  | .nop3A => Sys2Proof.Machine.execNop3A s
  | .nop3C => Sys2Proof.Machine.execNop3C s
  | .nop44 => Sys2Proof.Machine.execNop44 s
  | .nop54 => Sys2Proof.Machine.execNop54 s
  | .nop5A => Sys2Proof.Machine.execNop5A s
  | .nop5C => Sys2Proof.Machine.execNop5C s
  | .nop64 => Sys2Proof.Machine.execNop64 s
  | .nop74 => Sys2Proof.Machine.execNop74 s
  | .nop7A => Sys2Proof.Machine.execNop7A s
  | .nop7C => Sys2Proof.Machine.execNop7C s
  | .nop80 => Sys2Proof.Machine.execNop80 s
  | .nop82 => Sys2Proof.Machine.execNop82 s
  | .nop89 => Sys2Proof.Machine.execNop89 s
  | .nopC2 => Sys2Proof.Machine.execNopC2 s
  | .nopD4 => Sys2Proof.Machine.execNopD4 s
  | .nopDA => Sys2Proof.Machine.execNopDA s
  | .nopDC => Sys2Proof.Machine.execNopDC s
  | .nopE2 => Sys2Proof.Machine.execNopE2 s
  | .nopEA => Sys2Proof.Machine.execNopEA s
  | .nopF4 => Sys2Proof.Machine.execNopF4 s
  | .nopFA => Sys2Proof.Machine.execNopFA s
  | .nopFC => Sys2Proof.Machine.execNopFC s
  -- R176 ALR
  | .alr4B => Sys2Proof.Machine.execAlr4B s
  -- R177 ANC
  | .anc0B => Sys2Proof.Machine.execAnc0B s
  | .anc2B => Sys2Proof.Machine.execAnc2B s
  -- R178 ANE
  | .ane8B => Sys2Proof.Machine.execAne8B s
  -- R179 ARR
  | .arr6B => Sys2Proof.Machine.execArr6B s
  -- R180 DCP
  | .dcpC3 => Sys2Proof.Machine.execDcpC3 s
  | .dcpC7 => Sys2Proof.Machine.execDcpC7 s
  | .dcpCF => Sys2Proof.Machine.execDcpCF s
  | .dcpD3 => Sys2Proof.Machine.execDcpD3 s
  | .dcpD7 => Sys2Proof.Machine.execDcpD7 s
  | .dcpDB => Sys2Proof.Machine.execDcpDB s
  | .dcpDF => Sys2Proof.Machine.execDcpDF s
  -- R181 ISC
  | .iscE3 => Sys2Proof.Machine.execIscE3 s
  | .iscE7 => Sys2Proof.Machine.execIscE7 s
  | .iscEF => Sys2Proof.Machine.execIscEF s
  | .iscF3 => Sys2Proof.Machine.execIscF3 s
  | .iscF7 => Sys2Proof.Machine.execIscF7 s
  | .iscFB => Sys2Proof.Machine.execIscFB s
  | .iscFF => Sys2Proof.Machine.execIscFF s
  -- R182 JAM
  | .jam02 => Sys2Proof.Machine.execJam02 s
  | .jam12 => Sys2Proof.Machine.execJam12 s
  | .jam22 => Sys2Proof.Machine.execJam22 s
  | .jam32 => Sys2Proof.Machine.execJam32 s
  | .jam42 => Sys2Proof.Machine.execJam42 s
  | .jam52 => Sys2Proof.Machine.execJam52 s
  | .jam62 => Sys2Proof.Machine.execJam62 s
  | .jam72 => Sys2Proof.Machine.execJam72 s
  | .jam92 => Sys2Proof.Machine.execJam92 s
  | .jamB2 => Sys2Proof.Machine.execJamB2 s
  | .jamD2 => Sys2Proof.Machine.execJamD2 s
  | .jamF2 => Sys2Proof.Machine.execJamF2 s
  -- R183 LAS
  | .lasBB => Sys2Proof.Machine.execLasBB s
  -- R184 LAX
  | .laxA3 => Sys2Proof.Machine.execLaxA3 s
  | .laxA7 => Sys2Proof.Machine.execLaxA7 s
  | .laxAF => Sys2Proof.Machine.execLaxAF s
  | .laxB3 => Sys2Proof.Machine.execLaxB3 s
  | .laxB7 => Sys2Proof.Machine.execLaxB7 s
  | .laxBF => Sys2Proof.Machine.execLaxBF s
  -- R185 LXA
  | .lxaAB => Sys2Proof.Machine.execLxaAB s
  -- R186 RLA
  | .rla23 => Sys2Proof.Machine.execRla23 s
  | .rla27 => Sys2Proof.Machine.execRla27 s
  | .rla2F => Sys2Proof.Machine.execRla2F s
  | .rla33 => Sys2Proof.Machine.execRla33 s
  | .rla37 => Sys2Proof.Machine.execRla37 s
  | .rla3B => Sys2Proof.Machine.execRla3B s
  | .rla3F => Sys2Proof.Machine.execRla3F s
  -- R187 RRA
  | .rra63 => Sys2Proof.Machine.execRra63 s
  | .rra67 => Sys2Proof.Machine.execRra67 s
  | .rra6F => Sys2Proof.Machine.execRra6F s
  | .rra73 => Sys2Proof.Machine.execRra73 s
  | .rra77 => Sys2Proof.Machine.execRra77 s
  | .rra7B => Sys2Proof.Machine.execRra7B s
  | .rra7F => Sys2Proof.Machine.execRra7F s
  -- R188 SAX
  | .sax83 => Sys2Proof.Machine.execSax83 s
  | .sax87 => Sys2Proof.Machine.execSax87 s
  | .sax8F => Sys2Proof.Machine.execSax8F s
  | .sax97 => Sys2Proof.Machine.execSax97 s
  -- R189 SBX
  | .sbxCB => Sys2Proof.Machine.execSbxCB s
  -- R190 SHA
  | .sha93 => Sys2Proof.Machine.execSha93 s
  | .sha9F => Sys2Proof.Machine.execSha9F s
  -- R191 SHX
  | .shx9E => Sys2Proof.Machine.execShx9E s
  -- R192 SHY
  | .shy9C => Sys2Proof.Machine.execShy9C s
  -- R193 SLO
  | .slo03 => Sys2Proof.Machine.execSlo03 s
  | .slo07 => Sys2Proof.Machine.execSlo07 s
  | .slo0F => Sys2Proof.Machine.execSlo0F s
  | .slo13 => Sys2Proof.Machine.execSlo13 s
  | .slo17 => Sys2Proof.Machine.execSlo17 s
  | .slo1B => Sys2Proof.Machine.execSlo1B s
  | .slo1F => Sys2Proof.Machine.execSlo1F s
  -- R194 SRE
  | .sre43 => Sys2Proof.Machine.execSre43 s
  | .sre47 => Sys2Proof.Machine.execSre47 s
  | .sre4F => Sys2Proof.Machine.execSre4F s
  | .sre53 => Sys2Proof.Machine.execSre53 s
  | .sre57 => Sys2Proof.Machine.execSre57 s
  | .sre5B => Sys2Proof.Machine.execSre5B s
  | .sre5F => Sys2Proof.Machine.execSre5F s
  -- R195 TAS
  | .tas9B => Sys2Proof.Machine.execTas9B s

end Sys2Proof.Machine
end

