-- ==== Sys2Proof/Machine/Step.lean ====
section
/-! DEFINITION. One step: one query of the host (R21). -/

namespace Sys2Proof.Machine

/-- One query: on an opcode, the instruction it decodes to; or PEN alone. -/
def step (s : State) : Host.Outcome State Fault Refusal :=
  match s.query with
  | .decode        => exec (fetch s) s
  | .decodeAndCost => exec (fetch s) s
  | .cost          => queryCost s

/-- The host presents the first byte of a table word, so that the next step runs its instruction. The block sees
no other byte of it (R26). -/
def State.withFetchWord (s : State) (nbits w : Nat) : State := s.presentOpcode (opcodeOfWord nbits w)

end Sys2Proof.Machine
end

