-- ==== Sys2Proof/Laws/Penalty.lean ====
section
/-! SUPPORT. The penalty calculator by cases on the class. -/

namespace Sys2Proof.Machine

variable {m : Mnemonic} {a : AddressingMode} {c : Cycles}

/-- No branch mnemonic is in the read list, so the cases of R101 cannot overlap. -/
theorem not_branch_of_penalised (h : m ∈ penaltyMnemonics) : m ∉ branchMnemonics := by
  revert h; cases m <;> decide

theorem penaltyClass_branch (h : m ∈ branchMnemonics) : penaltyClass m a = .BRANCH := by
  simp [penaltyClass, h]

theorem penaltyClass_indexed (h : m ∈ penaltyMnemonics) (ha : a ∈ penaltyModes) :
    penaltyClass m a = .INDEXED_READ := by
  simp [penaltyClass, not_branch_of_penalised h, h, ha]

theorem penaltyClass_none (h : m ∉ branchMnemonics) (h2 : ¬ (m ∈ penaltyMnemonics ∧ a ∈ penaltyModes)) :
    penaltyClass m a = .NONE := by
  simp only [penaltyClass, if_neg h, if_neg h2]

/-- The class is one of the three of R101, each with the condition that selects it. -/
theorem penaltyClass_cases (m : Mnemonic) (a : AddressingMode) :
    (m ∈ branchMnemonics ∧ penaltyClass m a = .BRANCH) ∨
    (m ∉ branchMnemonics ∧ (m ∈ penaltyMnemonics ∧ a ∈ penaltyModes) ∧ penaltyClass m a = .INDEXED_READ) ∨
    (m ∉ branchMnemonics ∧ ¬ (m ∈ penaltyMnemonics ∧ a ∈ penaltyModes) ∧ penaltyClass m a = .NONE) := by
  by_cases h : m ∈ branchMnemonics
  · exact .inl ⟨h, penaltyClass_branch h⟩
  · by_cases h2 : m ∈ penaltyMnemonics ∧ a ∈ penaltyModes
    · exact .inr (.inl ⟨h, h2, penaltyClass_indexed h2.1 h2.2⟩)
    · exact .inr (.inr ⟨h, h2, penaltyClass_none h h2⟩)

@[simp] theorem penaltyOf_branch_same : penaltyOf .BRANCH .SAME = 1 := rfl
@[simp] theorem penaltyOf_branch_crossed : penaltyOf .BRANCH .CROSSED = 2 := rfl
@[simp] theorem penaltyOf_indexed_same : penaltyOf .INDEXED_READ .SAME = 0 := rfl
@[simp] theorem penaltyOf_indexed_crossed : penaltyOf .INDEXED_READ .CROSSED = 1 := rfl
@[simp] theorem penaltyOf_none (r : PageBoundary) : penaltyOf .NONE r = 0 := by cases r <;> rfl

end Sys2Proof.Machine
end

