-- ==== Sys2Proof/WellFormed.lean ====
section
/-! DEFINITION. When an instruction's bytes, a table entry and a descriptor are well formed. A term of `Instr` has no
fields (R50: the opcode is the whole byte), so every one of them is well formed. -/

namespace Sys2Proof.Machine

/-- R50, R56: the operand bytes are `length - 1` in number. -/
def InstrBytes.wellFormed (x : InstrBytes) : Bool := x.operands.length == x.instr.operandCount

/-- R6, R57, R63(d): the stored base cycle counts are 0 and 2 to 8, and 0 is JAM's alone. -/
def Entry.wellFormed (e : Entry) : Bool :=
  e.baseCycles != 1 && decide (e.baseCycles ≤ 8) && ((e.baseCycles == 0) == (e.mnemonic == .JAM))

/-- The invariants R63(a), (b) and (d) of every descriptor unit DEC produces. -/
def Descriptor.wellFormed (d : Descriptor) : Bool :=
  d.length == instructionLength d.mode && d.instructionSet == classify d.mnemonic
    && d.cycles != 1 && decide (d.cycles ≤ 8) && ((d.cycles == 0) == (d.mnemonic == .JAM))

end Sys2Proof.Machine
end

