-- ==== Sys2Proof/Laws/Rom.lean ====
section
/-! SUPPORT. Small facts about bytes, codes and the two 256-entry lists. -/

namespace Sys2Proof.Machine

/-- A property of bytes holds of all of them if it holds of the 256 numbers below 256. -/
theorem forall_byte {P : Byte → Prop} (h : ∀ n : Fin 256, P (BitVec.ofFin n)) (b : Byte) : P b := h b.toFin

/-- The code of a mnemonic is read back (R52). -/
@[simp] theorem Mnemonic.ofCode_code (m : Mnemonic) : Mnemonic.ofCode m.code = some m := by cases m <;> rfl

/-- The code of an addressing mode is read back (R53). -/
@[simp] theorem AddressingMode.ofCode_code (a : AddressingMode) : AddressingMode.ofCode a.code = some a := by
  cases a <;> rfl

@[simp] theorem InstructionSet.ofCode_code (x : InstructionSet) : InstructionSet.ofCode x.code = x := by
  cases x <;> rfl

@[simp] theorem PageBoundary.ofCode_code (r : PageBoundary) : PageBoundary.ofCode r.code = r := by
  cases r <;> rfl

/-- There are 76 mnemonics, in the order of their codes (R6, R52). -/
theorem mnemonicsByCode_length : mnemonicsByCode.length = Config.numMnemonics := rfl

/-- There are 13 addressing modes, in the order of their codes (R6, R53). -/
theorem modesByCode_length : modesByCode.length = Config.numModes := rfl

/-- A class that is not one of the two is the other. -/
theorem InstructionSet.ne_iff_eq_other (x y : InstructionSet) : x ≠ y ↔ x = y.other := by
  cases x <;> cases y <;> decide

end Sys2Proof.Machine
end

