-- ==== Sys2Proof/Laws/PerInstr.lean ====
section
/-! SUPPORT. The laws stated instruction by instruction. Family OpcodeRoundTrip: an instruction's opcode byte decodes
back to it (R50). -/

namespace Sys2Proof.Laws.OpcodeRoundTrip

/-- Decoding the opcode byte of `i` gives `i`. -/
def Statement (i : Instr) : Prop := decodeByte (encodeByte i) = i

theorem ldaA1 : Statement .ldaA1 := rfl
theorem ldaA5 : Statement .ldaA5 := rfl
theorem ldaA9 : Statement .ldaA9 := rfl
theorem ldaAD : Statement .ldaAD := rfl
theorem ldaB1 : Statement .ldaB1 := rfl
theorem ldaB5 : Statement .ldaB5 := rfl
theorem ldaB9 : Statement .ldaB9 := rfl
theorem ldaBD : Statement .ldaBD := rfl
theorem ldxA2 : Statement .ldxA2 := rfl
theorem ldxA6 : Statement .ldxA6 := rfl
theorem ldxAE : Statement .ldxAE := rfl
theorem ldxB6 : Statement .ldxB6 := rfl
theorem ldxBE : Statement .ldxBE := rfl
theorem ldyA0 : Statement .ldyA0 := rfl
theorem ldyA4 : Statement .ldyA4 := rfl
theorem ldyAC : Statement .ldyAC := rfl
theorem ldyB4 : Statement .ldyB4 := rfl
theorem ldyBC : Statement .ldyBC := rfl
theorem sta81 : Statement .sta81 := rfl
theorem sta85 : Statement .sta85 := rfl
theorem sta8D : Statement .sta8D := rfl
theorem sta91 : Statement .sta91 := rfl
theorem sta95 : Statement .sta95 := rfl
theorem sta99 : Statement .sta99 := rfl
theorem sta9D : Statement .sta9D := rfl
theorem stx86 : Statement .stx86 := rfl
theorem stx8E : Statement .stx8E := rfl
theorem stx96 : Statement .stx96 := rfl
theorem sty84 : Statement .sty84 := rfl
theorem sty8C : Statement .sty8C := rfl
theorem sty94 : Statement .sty94 := rfl
theorem taxAA : Statement .taxAA := rfl
theorem tayA8 : Statement .tayA8 := rfl
theorem tsxBA : Statement .tsxBA := rfl
theorem txa8A : Statement .txa8A := rfl
theorem txs9A : Statement .txs9A := rfl
theorem tya98 : Statement .tya98 := rfl
theorem adc61 : Statement .adc61 := rfl
theorem adc65 : Statement .adc65 := rfl
theorem adc69 : Statement .adc69 := rfl
theorem adc6D : Statement .adc6D := rfl
theorem adc71 : Statement .adc71 := rfl
theorem adc75 : Statement .adc75 := rfl
theorem adc79 : Statement .adc79 := rfl
theorem adc7D : Statement .adc7D := rfl
theorem sbcE1 : Statement .sbcE1 := rfl
theorem sbcE5 : Statement .sbcE5 := rfl
theorem sbcE9 : Statement .sbcE9 := rfl
theorem sbcEB : Statement .sbcEB := rfl
theorem sbcED : Statement .sbcED := rfl
theorem sbcF1 : Statement .sbcF1 := rfl
theorem sbcF5 : Statement .sbcF5 := rfl
theorem sbcF9 : Statement .sbcF9 := rfl
theorem sbcFD : Statement .sbcFD := rfl
theorem and21 : Statement .and21 := rfl
theorem and25 : Statement .and25 := rfl
theorem and29 : Statement .and29 := rfl
theorem and2D : Statement .and2D := rfl
theorem and31 : Statement .and31 := rfl
theorem and35 : Statement .and35 := rfl
theorem and39 : Statement .and39 := rfl
theorem and3D : Statement .and3D := rfl
theorem ora01 : Statement .ora01 := rfl
theorem ora05 : Statement .ora05 := rfl
theorem ora09 : Statement .ora09 := rfl
theorem ora0D : Statement .ora0D := rfl
theorem ora11 : Statement .ora11 := rfl
theorem ora15 : Statement .ora15 := rfl
theorem ora19 : Statement .ora19 := rfl
theorem ora1D : Statement .ora1D := rfl
theorem eor41 : Statement .eor41 := rfl
theorem eor45 : Statement .eor45 := rfl
theorem eor49 : Statement .eor49 := rfl
theorem eor4D : Statement .eor4D := rfl
theorem eor51 : Statement .eor51 := rfl
theorem eor55 : Statement .eor55 := rfl
theorem eor59 : Statement .eor59 := rfl
theorem eor5D : Statement .eor5D := rfl
theorem cmpC1 : Statement .cmpC1 := rfl
theorem cmpC5 : Statement .cmpC5 := rfl
theorem cmpC9 : Statement .cmpC9 := rfl
theorem cmpCD : Statement .cmpCD := rfl
theorem cmpD1 : Statement .cmpD1 := rfl
theorem cmpD5 : Statement .cmpD5 := rfl
theorem cmpD9 : Statement .cmpD9 := rfl
theorem cmpDD : Statement .cmpDD := rfl
theorem cpxE0 : Statement .cpxE0 := rfl
theorem cpxE4 : Statement .cpxE4 := rfl
theorem cpxEC : Statement .cpxEC := rfl
theorem cpyC0 : Statement .cpyC0 := rfl
theorem cpyC4 : Statement .cpyC4 := rfl
theorem cpyCC : Statement .cpyCC := rfl
theorem bit24 : Statement .bit24 := rfl
theorem bit2C : Statement .bit2C := rfl
theorem incE6 : Statement .incE6 := rfl
theorem incEE : Statement .incEE := rfl
theorem incF6 : Statement .incF6 := rfl
theorem incFE : Statement .incFE := rfl
theorem inxE8 : Statement .inxE8 := rfl
theorem inyC8 : Statement .inyC8 := rfl
theorem decC6 : Statement .decC6 := rfl
theorem decCE : Statement .decCE := rfl
theorem decD6 : Statement .decD6 := rfl
theorem decDE : Statement .decDE := rfl
theorem dexCA : Statement .dexCA := rfl
theorem dey88 : Statement .dey88 := rfl
theorem asl06 : Statement .asl06 := rfl
theorem asl0A : Statement .asl0A := rfl
theorem asl0E : Statement .asl0E := rfl
theorem asl16 : Statement .asl16 := rfl
theorem asl1E : Statement .asl1E := rfl
theorem lsr46 : Statement .lsr46 := rfl
theorem lsr4A : Statement .lsr4A := rfl
theorem lsr4E : Statement .lsr4E := rfl
theorem lsr56 : Statement .lsr56 := rfl
theorem lsr5E : Statement .lsr5E := rfl
theorem rol26 : Statement .rol26 := rfl
theorem rol2A : Statement .rol2A := rfl
theorem rol2E : Statement .rol2E := rfl
theorem rol36 : Statement .rol36 := rfl
theorem rol3E : Statement .rol3E := rfl
theorem ror66 : Statement .ror66 := rfl
theorem ror6A : Statement .ror6A := rfl
theorem ror6E : Statement .ror6E := rfl
theorem ror76 : Statement .ror76 := rfl
theorem ror7E : Statement .ror7E := rfl
theorem bcc90 : Statement .bcc90 := rfl
theorem bcsB0 : Statement .bcsB0 := rfl
theorem beqF0 : Statement .beqF0 := rfl
theorem bmi30 : Statement .bmi30 := rfl
theorem bneD0 : Statement .bneD0 := rfl
theorem bpl10 : Statement .bpl10 := rfl
theorem bvc50 : Statement .bvc50 := rfl
theorem bvs70 : Statement .bvs70 := rfl
theorem jmp4C : Statement .jmp4C := rfl
theorem jmp6C : Statement .jmp6C := rfl
theorem jsr20 : Statement .jsr20 := rfl
theorem rts60 : Statement .rts60 := rfl
theorem rti40 : Statement .rti40 := rfl
theorem brk00 : Statement .brk00 := rfl
theorem pha48 : Statement .pha48 := rfl
theorem php08 : Statement .php08 := rfl
theorem pla68 : Statement .pla68 := rfl
theorem plp28 : Statement .plp28 := rfl
theorem clc18 : Statement .clc18 := rfl
theorem cldD8 : Statement .cldD8 := rfl
theorem cli58 : Statement .cli58 := rfl
theorem clvB8 : Statement .clvB8 := rfl
theorem sec38 : Statement .sec38 := rfl
theorem sedF8 : Statement .sedF8 := rfl
theorem sei78 : Statement .sei78 := rfl
theorem nop04 : Statement .nop04 := rfl
theorem nop0C : Statement .nop0C := rfl
theorem nop14 : Statement .nop14 := rfl
theorem nop1A : Statement .nop1A := rfl
theorem nop1C : Statement .nop1C := rfl
theorem nop34 : Statement .nop34 := rfl
theorem nop3A : Statement .nop3A := rfl
theorem nop3C : Statement .nop3C := rfl
theorem nop44 : Statement .nop44 := rfl
theorem nop54 : Statement .nop54 := rfl
theorem nop5A : Statement .nop5A := rfl
theorem nop5C : Statement .nop5C := rfl
theorem nop64 : Statement .nop64 := rfl
theorem nop74 : Statement .nop74 := rfl
theorem nop7A : Statement .nop7A := rfl
theorem nop7C : Statement .nop7C := rfl
theorem nop80 : Statement .nop80 := rfl
theorem nop82 : Statement .nop82 := rfl
theorem nop89 : Statement .nop89 := rfl
theorem nopC2 : Statement .nopC2 := rfl
theorem nopD4 : Statement .nopD4 := rfl
theorem nopDA : Statement .nopDA := rfl
theorem nopDC : Statement .nopDC := rfl
theorem nopE2 : Statement .nopE2 := rfl
theorem nopEA : Statement .nopEA := rfl
theorem nopF4 : Statement .nopF4 := rfl
theorem nopFA : Statement .nopFA := rfl
theorem nopFC : Statement .nopFC := rfl
theorem alr4B : Statement .alr4B := rfl
theorem anc0B : Statement .anc0B := rfl
theorem anc2B : Statement .anc2B := rfl
theorem ane8B : Statement .ane8B := rfl
theorem arr6B : Statement .arr6B := rfl
theorem dcpC3 : Statement .dcpC3 := rfl
theorem dcpC7 : Statement .dcpC7 := rfl
theorem dcpCF : Statement .dcpCF := rfl
theorem dcpD3 : Statement .dcpD3 := rfl
theorem dcpD7 : Statement .dcpD7 := rfl
theorem dcpDB : Statement .dcpDB := rfl
theorem dcpDF : Statement .dcpDF := rfl
theorem iscE3 : Statement .iscE3 := rfl
theorem iscE7 : Statement .iscE7 := rfl
theorem iscEF : Statement .iscEF := rfl
theorem iscF3 : Statement .iscF3 := rfl
theorem iscF7 : Statement .iscF7 := rfl
theorem iscFB : Statement .iscFB := rfl
theorem iscFF : Statement .iscFF := rfl
theorem jam02 : Statement .jam02 := rfl
theorem jam12 : Statement .jam12 := rfl
theorem jam22 : Statement .jam22 := rfl
theorem jam32 : Statement .jam32 := rfl
theorem jam42 : Statement .jam42 := rfl
theorem jam52 : Statement .jam52 := rfl
theorem jam62 : Statement .jam62 := rfl
theorem jam72 : Statement .jam72 := rfl
theorem jam92 : Statement .jam92 := rfl
theorem jamB2 : Statement .jamB2 := rfl
theorem jamD2 : Statement .jamD2 := rfl
theorem jamF2 : Statement .jamF2 := rfl
theorem lasBB : Statement .lasBB := rfl
theorem laxA3 : Statement .laxA3 := rfl
theorem laxA7 : Statement .laxA7 := rfl
theorem laxAF : Statement .laxAF := rfl
theorem laxB3 : Statement .laxB3 := rfl
theorem laxB7 : Statement .laxB7 := rfl
theorem laxBF : Statement .laxBF := rfl
theorem lxaAB : Statement .lxaAB := rfl
theorem rla23 : Statement .rla23 := rfl
theorem rla27 : Statement .rla27 := rfl
theorem rla2F : Statement .rla2F := rfl
theorem rla33 : Statement .rla33 := rfl
theorem rla37 : Statement .rla37 := rfl
theorem rla3B : Statement .rla3B := rfl
theorem rla3F : Statement .rla3F := rfl
theorem rra63 : Statement .rra63 := rfl
theorem rra67 : Statement .rra67 := rfl
theorem rra6F : Statement .rra6F := rfl
theorem rra73 : Statement .rra73 := rfl
theorem rra77 : Statement .rra77 := rfl
theorem rra7B : Statement .rra7B := rfl
theorem rra7F : Statement .rra7F := rfl
theorem sax83 : Statement .sax83 := rfl
theorem sax87 : Statement .sax87 := rfl
theorem sax8F : Statement .sax8F := rfl
theorem sax97 : Statement .sax97 := rfl
theorem sbxCB : Statement .sbxCB := rfl
theorem sha93 : Statement .sha93 := rfl
theorem sha9F : Statement .sha9F := rfl
theorem shx9E : Statement .shx9E := rfl
theorem shy9C : Statement .shy9C := rfl
theorem slo03 : Statement .slo03 := rfl
theorem slo07 : Statement .slo07 := rfl
theorem slo0F : Statement .slo0F := rfl
theorem slo13 : Statement .slo13 := rfl
theorem slo17 : Statement .slo17 := rfl
theorem slo1B : Statement .slo1B := rfl
theorem slo1F : Statement .slo1F := rfl
theorem sre43 : Statement .sre43 := rfl
theorem sre47 : Statement .sre47 := rfl
theorem sre4F : Statement .sre4F := rfl
theorem sre53 : Statement .sre53 := rfl
theorem sre57 : Statement .sre57 := rfl
theorem sre5B : Statement .sre5B := rfl
theorem sre5F : Statement .sre5F := rfl
theorem tas9B : Statement .tas9B := rfl

end Sys2Proof.Laws.OpcodeRoundTrip
end

