-- ==== Sys2Proof/Laws/Decoder.lean ====
section
/-! SUPPORT. `as_instruction` by cases on whether the byte is decodable under the requested set. -/

namespace Sys2Proof.Machine

variable {tbl : Byte → Entry} {so : Byte → Byte} {b : Byte} {x : InstructionSet}

/-- Step 3 of R91. -/
theorem asInstructionWith_decoded (h : classify (tbl b).mnemonic = x) :
    asInstructionWith tbl so b x = decodedDescriptor b (tbl b) := by simp [asInstructionWith, h]

/-- Step 4 of R91. -/
theorem asInstructionWith_sentinel (h : classify (tbl b).mnemonic ≠ x) :
    asInstructionWith tbl so b x = sentinelWith so b := by simp [asInstructionWith, h]

/-- Step 3 of R91 for the block's own table. -/
theorem asInstruction_decoded (h : classify (table b).mnemonic = x) :
    asInstruction b x = decodedDescriptor b (table b) := asInstructionWith_decoded h

/-- Step 4 of R91 for the block's own table. -/
theorem asInstruction_sentinel (h : classify (table b).mnemonic ≠ x) :
    asInstruction b x = sentinel b := asInstructionWith_sentinel h

/-- The sentinel's mnemonic is of its own class (R63, R85). -/
theorem classify_NOP : classify .NOP = .STANDARD := by decide

end Sys2Proof.Machine
end

