-- ==== Sys2Proof/Laws/State.lean ====
section
/-! SUPPORT. What each update of State leaves in each field. -/

namespace Sys2Proof.Machine

@[simp] theorem State.driveDec_decOpcode (s : State) (d : Descriptor) : (s.driveDec d).decOpcode = s.decOpcode := rfl
@[simp] theorem State.driveDec_decRequestedSet (s : State) (d : Descriptor) : (s.driveDec d).decRequestedSet = s.decRequestedSet := rfl
@[simp] theorem State.driveDec_insOpcode (s : State) (d : Descriptor) : (s.driveDec d).insOpcode = d.opcode := rfl
@[simp] theorem State.driveDec_insMnemonic (s : State) (d : Descriptor) : (s.driveDec d).insMnemonic = d.mnemonic := rfl
@[simp] theorem State.driveDec_insMode (s : State) (d : Descriptor) : (s.driveDec d).insMode = d.mode := rfl
@[simp] theorem State.driveDec_insLength (s : State) (d : Descriptor) : (s.driveDec d).insLength = d.length := rfl
@[simp] theorem State.driveDec_insCycles (s : State) (d : Descriptor) : (s.driveDec d).insCycles = d.cycles := rfl
@[simp] theorem State.driveDec_insSet (s : State) (d : Descriptor) : (s.driveDec d).insSet = d.instructionSet := rfl
@[simp] theorem State.driveDec_penMnemonic (s : State) (d : Descriptor) : (s.driveDec d).penMnemonic = s.penMnemonic := rfl
@[simp] theorem State.driveDec_penMode (s : State) (d : Descriptor) : (s.driveDec d).penMode = s.penMode := rfl
@[simp] theorem State.driveDec_penCycles (s : State) (d : Descriptor) : (s.driveDec d).penCycles = s.penCycles := rfl
@[simp] theorem State.driveDec_penPageRelation (s : State) (d : Descriptor) : (s.driveDec d).penPageRelation = s.penPageRelation := rfl
@[simp] theorem State.driveDec_penResult (s : State) (d : Descriptor) : (s.driveDec d).penResult = s.penResult := rfl
@[simp] theorem State.driveDec_query (s : State) (d : Descriptor) : (s.driveDec d).query = s.query := rfl

@[simp] theorem State.feedPen_decOpcode (s : State) : (s.feedPen).decOpcode = s.decOpcode := rfl
@[simp] theorem State.feedPen_decRequestedSet (s : State) : (s.feedPen).decRequestedSet = s.decRequestedSet := rfl
@[simp] theorem State.feedPen_insOpcode (s : State) : (s.feedPen).insOpcode = s.insOpcode := rfl
@[simp] theorem State.feedPen_insMnemonic (s : State) : (s.feedPen).insMnemonic = s.insMnemonic := rfl
@[simp] theorem State.feedPen_insMode (s : State) : (s.feedPen).insMode = s.insMode := rfl
@[simp] theorem State.feedPen_insLength (s : State) : (s.feedPen).insLength = s.insLength := rfl
@[simp] theorem State.feedPen_insCycles (s : State) : (s.feedPen).insCycles = s.insCycles := rfl
@[simp] theorem State.feedPen_insSet (s : State) : (s.feedPen).insSet = s.insSet := rfl
@[simp] theorem State.feedPen_penMnemonic (s : State) : (s.feedPen).penMnemonic = s.insMnemonic.code := rfl
@[simp] theorem State.feedPen_penMode (s : State) : (s.feedPen).penMode = s.insMode.code := rfl
@[simp] theorem State.feedPen_penCycles (s : State) : (s.feedPen).penCycles = s.insCycles := rfl
@[simp] theorem State.feedPen_penPageRelation (s : State) : (s.feedPen).penPageRelation = s.penPageRelation := rfl
@[simp] theorem State.feedPen_penResult (s : State) : (s.feedPen).penResult = s.penResult := rfl
@[simp] theorem State.feedPen_query (s : State) : (s.feedPen).query = s.query := rfl

@[simp] theorem State.drivePen_decOpcode (s : State) (c : Cycles) : (s.drivePen c).decOpcode = s.decOpcode := rfl
@[simp] theorem State.drivePen_decRequestedSet (s : State) (c : Cycles) : (s.drivePen c).decRequestedSet = s.decRequestedSet := rfl
@[simp] theorem State.drivePen_insOpcode (s : State) (c : Cycles) : (s.drivePen c).insOpcode = s.insOpcode := rfl
@[simp] theorem State.drivePen_insMnemonic (s : State) (c : Cycles) : (s.drivePen c).insMnemonic = s.insMnemonic := rfl
@[simp] theorem State.drivePen_insMode (s : State) (c : Cycles) : (s.drivePen c).insMode = s.insMode := rfl
@[simp] theorem State.drivePen_insLength (s : State) (c : Cycles) : (s.drivePen c).insLength = s.insLength := rfl
@[simp] theorem State.drivePen_insCycles (s : State) (c : Cycles) : (s.drivePen c).insCycles = s.insCycles := rfl
@[simp] theorem State.drivePen_insSet (s : State) (c : Cycles) : (s.drivePen c).insSet = s.insSet := rfl
@[simp] theorem State.drivePen_penMnemonic (s : State) (c : Cycles) : (s.drivePen c).penMnemonic = s.penMnemonic := rfl
@[simp] theorem State.drivePen_penMode (s : State) (c : Cycles) : (s.drivePen c).penMode = s.penMode := rfl
@[simp] theorem State.drivePen_penCycles (s : State) (c : Cycles) : (s.drivePen c).penCycles = s.penCycles := rfl
@[simp] theorem State.drivePen_penPageRelation (s : State) (c : Cycles) : (s.drivePen c).penPageRelation = s.penPageRelation := rfl
@[simp] theorem State.drivePen_penResult (s : State) (c : Cycles) : (s.drivePen c).penResult = c := rfl
@[simp] theorem State.drivePen_query (s : State) (c : Cycles) : (s.drivePen c).query = s.query := rfl

@[simp] theorem State.driveOpcode_decOpcode (s : State) (b : Byte) : (s.driveOpcode b).decOpcode = b := rfl
@[simp] theorem State.driveOpcode_decRequestedSet (s : State) (b : Byte) : (s.driveOpcode b).decRequestedSet = s.decRequestedSet := rfl
@[simp] theorem State.driveOpcode_insOpcode (s : State) (b : Byte) : (s.driveOpcode b).insOpcode = s.insOpcode := rfl
@[simp] theorem State.driveOpcode_insMnemonic (s : State) (b : Byte) : (s.driveOpcode b).insMnemonic = s.insMnemonic := rfl
@[simp] theorem State.driveOpcode_insMode (s : State) (b : Byte) : (s.driveOpcode b).insMode = s.insMode := rfl
@[simp] theorem State.driveOpcode_insLength (s : State) (b : Byte) : (s.driveOpcode b).insLength = s.insLength := rfl
@[simp] theorem State.driveOpcode_insCycles (s : State) (b : Byte) : (s.driveOpcode b).insCycles = s.insCycles := rfl
@[simp] theorem State.driveOpcode_insSet (s : State) (b : Byte) : (s.driveOpcode b).insSet = s.insSet := rfl
@[simp] theorem State.driveOpcode_penMnemonic (s : State) (b : Byte) : (s.driveOpcode b).penMnemonic = s.penMnemonic := rfl
@[simp] theorem State.driveOpcode_penMode (s : State) (b : Byte) : (s.driveOpcode b).penMode = s.penMode := rfl
@[simp] theorem State.driveOpcode_penCycles (s : State) (b : Byte) : (s.driveOpcode b).penCycles = s.penCycles := rfl
@[simp] theorem State.driveOpcode_penPageRelation (s : State) (b : Byte) : (s.driveOpcode b).penPageRelation = s.penPageRelation := rfl
@[simp] theorem State.driveOpcode_penResult (s : State) (b : Byte) : (s.driveOpcode b).penResult = s.penResult := rfl
@[simp] theorem State.driveOpcode_query (s : State) (b : Byte) : (s.driveOpcode b).query = s.query := rfl

@[simp] theorem State.settleDec_decOpcode (s : State) : (s.settleDec).decOpcode = s.decOpcode := rfl
@[simp] theorem State.settleDec_decRequestedSet (s : State) : (s.settleDec).decRequestedSet = s.decRequestedSet := rfl
@[simp] theorem State.settleDec_insOpcode (s : State) :
    (s.settleDec).insOpcode = (asInstruction s.decOpcode s.decRequestedSet).opcode := rfl
@[simp] theorem State.settleDec_insMnemonic (s : State) :
    (s.settleDec).insMnemonic = (asInstruction s.decOpcode s.decRequestedSet).mnemonic := rfl
@[simp] theorem State.settleDec_insMode (s : State) : (s.settleDec).insMode = (asInstruction s.decOpcode s.decRequestedSet).mode := rfl
@[simp] theorem State.settleDec_insLength (s : State) :
    (s.settleDec).insLength = (asInstruction s.decOpcode s.decRequestedSet).length := rfl
@[simp] theorem State.settleDec_insCycles (s : State) :
    (s.settleDec).insCycles = (asInstruction s.decOpcode s.decRequestedSet).cycles := rfl
@[simp] theorem State.settleDec_insSet (s : State) :
    (s.settleDec).insSet = (asInstruction s.decOpcode s.decRequestedSet).instructionSet := rfl
@[simp] theorem State.settleDec_penMnemonic (s : State) : (s.settleDec).penMnemonic = s.penMnemonic := rfl
@[simp] theorem State.settleDec_penMode (s : State) : (s.settleDec).penMode = s.penMode := rfl
@[simp] theorem State.settleDec_penCycles (s : State) : (s.settleDec).penCycles = s.penCycles := rfl
@[simp] theorem State.settleDec_penPageRelation (s : State) : (s.settleDec).penPageRelation = s.penPageRelation := rfl
@[simp] theorem State.settleDec_penResult (s : State) : (s.settleDec).penResult = s.penResult := rfl
@[simp] theorem State.settleDec_query (s : State) : (s.settleDec).query = s.query := rfl

@[simp] theorem State.settlePen_decOpcode (s : State) : (s.settlePen).decOpcode = s.decOpcode := rfl
@[simp] theorem State.settlePen_decRequestedSet (s : State) : (s.settlePen).decRequestedSet = s.decRequestedSet := rfl
@[simp] theorem State.settlePen_insOpcode (s : State) : (s.settlePen).insOpcode = s.insOpcode := rfl
@[simp] theorem State.settlePen_insMnemonic (s : State) : (s.settlePen).insMnemonic = s.insMnemonic := rfl
@[simp] theorem State.settlePen_insMode (s : State) : (s.settlePen).insMode = s.insMode := rfl
@[simp] theorem State.settlePen_insLength (s : State) : (s.settlePen).insLength = s.insLength := rfl
@[simp] theorem State.settlePen_insCycles (s : State) : (s.settlePen).insCycles = s.insCycles := rfl
@[simp] theorem State.settlePen_insSet (s : State) : (s.settlePen).insSet = s.insSet := rfl
@[simp] theorem State.settlePen_penMnemonic (s : State) : (s.settlePen).penMnemonic = s.penMnemonic := rfl
@[simp] theorem State.settlePen_penMode (s : State) : (s.settlePen).penMode = s.penMode := rfl
@[simp] theorem State.settlePen_penCycles (s : State) : (s.settlePen).penCycles = s.penCycles := rfl
@[simp] theorem State.settlePen_penPageRelation (s : State) : (s.settlePen).penPageRelation = s.penPageRelation := rfl
@[simp] theorem State.settlePen_penResult (s : State) :
    (s.settlePen).penResult = penOutput s.penMnemonic s.penMode s.penCycles s.penPageRelation := rfl
@[simp] theorem State.settlePen_query (s : State) : (s.settlePen).query = s.query := rfl

@[simp] theorem State.presentOpcode_decOpcode (s : State) (b : Byte) : (s.presentOpcode b).decOpcode = b := rfl
@[simp] theorem State.presentOpcode_decRequestedSet (s : State) (b : Byte) : (s.presentOpcode b).decRequestedSet = s.decRequestedSet := rfl
@[simp] theorem State.presentOpcode_insOpcode (s : State) (b : Byte) : (s.presentOpcode b).insOpcode = s.insOpcode := rfl
@[simp] theorem State.presentOpcode_insMnemonic (s : State) (b : Byte) : (s.presentOpcode b).insMnemonic = s.insMnemonic := rfl
@[simp] theorem State.presentOpcode_insMode (s : State) (b : Byte) : (s.presentOpcode b).insMode = s.insMode := rfl
@[simp] theorem State.presentOpcode_insLength (s : State) (b : Byte) : (s.presentOpcode b).insLength = s.insLength := rfl
@[simp] theorem State.presentOpcode_insCycles (s : State) (b : Byte) : (s.presentOpcode b).insCycles = s.insCycles := rfl
@[simp] theorem State.presentOpcode_insSet (s : State) (b : Byte) : (s.presentOpcode b).insSet = s.insSet := rfl
@[simp] theorem State.presentOpcode_penMnemonic (s : State) (b : Byte) : (s.presentOpcode b).penMnemonic = s.penMnemonic := rfl
@[simp] theorem State.presentOpcode_penMode (s : State) (b : Byte) : (s.presentOpcode b).penMode = s.penMode := rfl
@[simp] theorem State.presentOpcode_penCycles (s : State) (b : Byte) : (s.presentOpcode b).penCycles = s.penCycles := rfl
@[simp] theorem State.presentOpcode_penPageRelation (s : State) (b : Byte) : (s.presentOpcode b).penPageRelation = s.penPageRelation := rfl
@[simp] theorem State.presentOpcode_penResult (s : State) (b : Byte) : (s.presentOpcode b).penResult = s.penResult := rfl
@[simp] theorem State.presentOpcode_query (s : State) (b : Byte) : (s.presentOpcode b).query = s.query.presenting := rfl

@[simp] theorem State.driveDec_descriptor (s : State) (d : Descriptor) : (s.driveDec d).descriptor = d := rfl

@[simp] theorem State.feedPen_descriptor (s : State) : s.feedPen.descriptor = s.descriptor := rfl

@[simp] theorem State.drivePen_descriptor (s : State) (c : Cycles) :
    (s.drivePen c).descriptor = s.descriptor := rfl

@[simp] theorem State.presentOpcode_descriptor (s : State) (b : Byte) :
    (s.presentOpcode b).descriptor = s.descriptor := rfl

@[simp] theorem State.driveOpcode_descriptor (s : State) (b : Byte) :
    (s.driveOpcode b).descriptor = s.descriptor := rfl

@[simp] theorem State.settleDec_descriptor (s : State) :
    s.settleDec.descriptor = asInstruction s.decOpcode s.decRequestedSet := rfl

@[simp] theorem State.settlePen_descriptor (s : State) : s.settlePen.descriptor = s.descriptor := rfl

theorem State.driveDec_self (s : State) : s.driveDec s.descriptor = s := rfl

theorem State.drivePen_self (s : State) : s.drivePen s.penResult = s := rfl

/-- What stands on `dec_opcode` after the host presents a byte is what the next query decodes. -/
@[simp] theorem fetch_presentOpcode (s : State) (b : Byte) : fetch (s.presentOpcode b) = decodeByte b := rfl

/-- Presenting an opcode never leaves a PEN-only query. -/
theorem Query.presenting_ne_cost (q : Query) : q.presenting ≠ .cost := by cases q <;> simp [Query.presenting]

end Sys2Proof.Machine
end

