-- ==== Sys2Proof/Laws/Ops.lean ====
section
/-! SUPPORT. Everything the two queries can do. -/

namespace Sys2Proof.Machine

/-- Unit PEN on codes of enumeration values gives the calculator's result. -/
@[simp] theorem penUnit_code (m : Mnemonic) (a : AddressingMode) (c : Cycles) (r : PageBoundary) :
    penUnit m.code a.code c r = .ok (penaltyResult m a c r) := by simp [penUnit]

/-- PEN's output is the calculator's result wherever its inputs are codes of enumeration values. -/
@[simp] theorem penOutput_code (m : Mnemonic) (a : AddressingMode) (c : Cycles) (r : PageBoundary) :
    penOutput m.code a.code c r = penaltyResult m a c r := by simp [penOutput]

/-- What PEN answers is what it drives. -/
theorem penOutput_of_ok {m : MnemonicCode} {a : ModeCode} {c v : Cycles} {r : PageBoundary}
    (h : penUnit m a c r = .ok v) : penOutput m a c r = v := by simp [penOutput, h]

/-- A PEN query whose inputs are enumeration values settles both units and changes no input. -/
theorem queryCost_next {s : State} {m : Mnemonic} {a : AddressingMode}
    (hm : Mnemonic.ofCode s.penMnemonic = some m) (ha : AddressingMode.ofCode s.penMode = some a) :
    queryCost s = .next s.settleDec.settlePen := by
  simp [queryCost, penUnit, hm, ha]

/-- A PEN query that answers a next state found enumeration values at its inputs, and settled both units. -/
theorem queryCost_cases {s t : State} (h : queryCost s = .next t) :
    ∃ m a, Mnemonic.ofCode s.penMnemonic = some m ∧ AddressingMode.ofCode s.penMode = some a ∧
      t = s.settleDec.settlePen := by
  cases hm : Mnemonic.ofCode s.penMnemonic with
  | none => simp [queryCost, penUnit, hm] at h
  | some m =>
    cases ha : AddressingMode.ofCode s.penMode with
    | none => simp [queryCost, penUnit, hm, ha] at h
    | some a =>
      rw [queryCost_next hm ha] at h
      exact ⟨m, a, rfl, rfl, by cases h; rfl⟩

/-- An evaluation of an opcode always answers a next state (R90, R200). -/
theorem evaluate_eq (b : Byte) (s : State) : evaluate b s = .next (evaluated b s) := rfl

/-- The state an evaluation answers with, where the host feeds DEC's outputs to PEN: every port, with `d` the
descriptor of `as_instruction`. -/
theorem evaluated_fed {b : Byte} {s : State} (h : s.query = .decodeAndCost) :
    let d := asInstruction b s.decRequestedSet
    evaluated b s =
      { ((s.driveOpcode b).driveDec d) with
        penMnemonic := d.mnemonic.code
        penMode := d.mode.code
        penCycles := d.cycles
        penResult := cyclesWithPenalty d s.penPageRelation } := by
  simp [evaluated, h, State.settleDec, State.settlePen, State.feedPen, State.drivePen, State.driveDec,
    State.driveOpcode, cyclesWithPenalty]

/-- The state an evaluation answers with, where the host does not feed PEN. -/
theorem evaluated_apart {b : Byte} {s : State} (h : s.query ≠ .decodeAndCost) :
    evaluated b s =
      ((s.driveOpcode b).driveDec (asInstruction b s.decRequestedSet)).drivePen
        (penOutput s.penMnemonic s.penMode s.penCycles s.penPageRelation) := by
  cases hq : s.query with
  | decode => simp only [evaluated, hq]; rfl
  | decodeAndCost => exact absurd hq h
  | cost => simp only [evaluated, hq]; rfl

@[simp] theorem evaluated_decOpcode (b : Byte) (s : State) : (evaluated b s).decOpcode = b := by
  cases h : s.query <;> simp only [evaluated, h] <;> rfl

@[simp] theorem evaluated_decRequestedSet (b : Byte) (s : State) :
    (evaluated b s).decRequestedSet = s.decRequestedSet := by
  cases h : s.query <;> simp only [evaluated, h] <;> rfl

@[simp] theorem evaluated_penPageRelation (b : Byte) (s : State) :
    (evaluated b s).penPageRelation = s.penPageRelation := by
  cases h : s.query <;> simp only [evaluated, h] <;> rfl

@[simp] theorem evaluated_query (b : Byte) (s : State) : (evaluated b s).query = s.query := by
  cases h : s.query <;> simp only [evaluated, h] <;> exact h

@[simp] theorem evaluated_descriptor (b : Byte) (s : State) :
    (evaluated b s).descriptor = asInstruction b s.decRequestedSet := by
  cases h : s.query <;> simp only [evaluated, h] <;> rfl

/-- Whatever the query, PEN's result after an evaluation is the function of its inputs there (R19, R230). -/
theorem evaluated_penResult (b : Byte) (s : State) :
    (evaluated b s).penResult =
      penOutput (evaluated b s).penMnemonic (evaluated b s).penMode (evaluated b s).penCycles
        (evaluated b s).penPageRelation := by
  cases h : s.query <;> simp only [evaluated, h] <;> rfl

end Sys2Proof.Machine
end

