-- ==== Sys2Proof/Laws/Dispatch.lean ====
section
/-! SUPPORT. The one place where the 256 meanings are unfolded. -/

namespace Sys2Proof.Machine

/-- Every instruction's meaning is the evaluation of its own opcode byte. -/
theorem exec_eq_evaluate (i : Instr) (s : State) : exec i s = evaluate (encodeByte i) s := by
  cases i <;> rfl

end Sys2Proof.Machine
end

