-- ==== Sys2Proof/Safety.lean ====
section
/-! DEFINITION. What counts as a safe run, and the relations between the port values that every query establishes or
keeps. -/

namespace Sys2Proof.Machine

/-- The step goes on: it ends neither in a fault nor in a refusal. -/
def Continues (s : State) : Prop := ∃ t, step s = .next t

/-- What stands at PEN's two enumeration inputs is in the calculator's domain (R64, R108). -/
def PenInputsAreValues (s : State) : Prop :=
  (Mnemonic.ofCode s.penMnemonic).isSome ∧ (AddressingMode.ofCode s.penMode).isSome

/-- Unit DEC's outputs are the function of its inputs and of `TABLE` (R11, R18, R221). -/
def DecSettled (s : State) : Prop := s.descriptor = asInstruction s.decOpcode s.decRequestedSet

/-- Unit PEN's result is the function of its inputs (R11, R19, R221). -/
def PenSettled (s : State) : Prop :=
  s.penResult = penOutput s.penMnemonic s.penMode s.penCycles s.penPageRelation

/-- Both units have settled: there is no other state in the block (R11). -/
def Settled (s : State) : Prop := DecSettled s ∧ PenSettled s

/-- The ports of a host that has driven only enumeration values into PEN: both units have settled, PEN's inputs are in
its domain, and DEC's outputs are a descriptor with the invariants of R63. -/
def PortInvariant (s : State) : Prop :=
  Settled s ∧ PenInputsAreValues s ∧ s.descriptor.wellFormed = true

/-- Two states in which the host drives the same inputs and asks for the same evaluation. -/
def SameInputs (s t : State) : Prop :=
  s.decOpcode = t.decOpcode ∧ s.decRequestedSet = t.decRequestedSet ∧
  s.penMnemonic = t.penMnemonic ∧ s.penMode = t.penMode ∧ s.penCycles = t.penCycles ∧
  s.penPageRelation = t.penPageRelation ∧ s.query = t.query

/-- The requested set, the page relation and the query are the host's: no instruction changes them. -/
def HostInputsKept (s t : State) : Prop :=
  t.decRequestedSet = s.decRequestedSet ∧ t.penPageRelation = s.penPageRelation ∧ t.query = s.query

/-- The descriptor inputs of unit PEN are untouched. -/
def PenInputsKept (s t : State) : Prop :=
  t.penMnemonic = s.penMnemonic ∧ t.penMode = s.penMode ∧ t.penCycles = s.penCycles

end Sys2Proof.Machine
end

