-- ==== Sys2Proof/Laws/Step.lean ====
section
/-! SUPPORT. Everything a step can do. -/

namespace Sys2Proof.Machine

/-- A step on an opcode query is the evaluation of the fetched instruction's opcode byte. -/
theorem step_opcode {s : State} (h : s.query ≠ .cost) :
    step s = .next (evaluated (encodeByte (fetch s)) s) := by
  rw [← evaluate_eq, ← exec_eq_evaluate]
  cases hq : s.query with
  | decode => simp [step, hq]
  | decodeAndCost => simp [step, hq]
  | cost => exact absurd hq h

/-- A step on a PEN-only query is that query. -/
theorem step_cost {s : State} (h : s.query = .cost) : step s = queryCost s := by simp [step, h]

/-- A step that goes on is one of two things. -/
theorem step_cases {s t : State} (h : step s = .next t) :
    (s.query ≠ .cost ∧ t = evaluated (encodeByte (fetch s)) s) ∨
    (s.query = .cost ∧ ∃ m a, Mnemonic.ofCode s.penMnemonic = some m ∧
      AddressingMode.ofCode s.penMode = some a ∧
      t = s.settleDec.settlePen) := by
  by_cases hq : s.query = .cost
  · exact .inr ⟨hq, queryCost_cases (step_cost hq ▸ h)⟩
  · rw [step_opcode hq] at h
    exact .inl ⟨hq, by cases h; rfl⟩

/-- Whatever the query and whatever stood on the outputs, the state a step answers with has both units settled. -/
theorem step_settled {s t : State} (h : step s = .next t) : Settled t := by
  obtain ⟨_, rfl⟩ | ⟨_, _, _, _, _, rfl⟩ := step_cases h
  · exact ⟨by simp [DecSettled], evaluated_penResult _ _⟩
  · exact ⟨rfl, rfl⟩

end Sys2Proof.Machine
end

