-- ==== Sys2Proof/Machine/Neighbours.lean ====
section
/-! DEFINITION. The block's neighbours, as the source settles them: addresses, pages, address ranges and devices (R31,
R38 to R47). They are outside the block (R4(c)), no operation of the block uses them, and State holds none (log
entry 16). -/

namespace Sys2Proof.Machine

/-- `Address`: a 16-bit value, immutable (R38). -/
structure Address where
  raw : BitVec 16
deriving DecidableEq, Repr

/-- The encoding of an address, most significant byte first (R38). -/
def Address.bytes (a : Address) : Byte × Byte := (a.raw.extractLsb' 8 8, a.raw.extractLsb' 0 8)

/-- The constructor from two bytes (R39). -/
def Address.fromBytes (p : Byte × Byte) : Address := ⟨p.1 ++ p.2⟩

/-- The order of addresses, that of `raw` (R40). -/
def Address.lt (a b : Address) : Bool := decide (a.raw < b.raw)

/-- The page number, address bits [15:8] (R31). -/
def Address.page (a : Address) : Byte := a.raw.extractLsb' 8 8

/-- The relation of two addresses: the same page exactly when their bits [15:8] agree (glossary, R106). Which two
addresses a host compares is not in the source (N6). -/
def pageRelation (a b : Address) : PageBoundary := if a.page = b.page then .SAME else .CROSSED

/-- `AddressRange`: both ends belong to it (R41, C6). -/
structure AddressRange where
  first : Address
  till  : Address
deriving DecidableEq, Repr

/-- The construction, which orders the endpoints and never fails (R41). -/
def AddressRange.new (a b : Address) : AddressRange := if b.lt a then ⟨b, a⟩ else ⟨a, b⟩

/-- What construction ensures: `from ≤ till` (R41). -/
def AddressRange.normalized (r : AddressRange) : Bool := !r.till.lt r.first

/-- `size()`, a `u64` (R42). -/
def AddressRange.size (r : AddressRange) : BitVec 64 :=
  r.till.raw.setWidth 64 - r.first.raw.setWidth 64 + 1

/-- `contains(addr)` (R42). -/
def AddressRange.contains (r : AddressRange) (a : Address) : Bool := !a.lt r.first && !r.till.lt a

/-- `overlaps(other)`, touching edges included (R43). -/
def AddressRange.overlaps (r q : AddressRange) : Bool := !q.till.lt r.first && !r.till.lt q.first

/-- A hexadecimal digit; the source does not give its case (log entry 16). -/
def hexDigit (v : BitVec 4) : Char := "0123456789ABCDEF".toList.getD v.toNat '0'

/-- The four hexadecimal digits of an address. -/
def Address.hex (a : Address) : String :=
  String.ofList [hexDigit (a.raw.extractLsb' 12 4), hexDigit (a.raw.extractLsb' 8 4),
    hexDigit (a.raw.extractLsb' 4 4), hexDigit (a.raw.extractLsb' 0 4)]

/-- The text form `ADDR(0xHHHH)` (R73). -/
def Address.render (a : Address) : String := "ADDR(0x" ++ a.hex ++ ")"

/-- The text form `RANGE(0xHHHH...0xHHHH)` (R73). -/
def AddressRange.render (r : AddressRange) : String := "RANGE(0x" ++ r.first.hex ++ "...0x" ++ r.till.hex ++ ")"

/-- `WriteStatus` (R45). -/
inductive WriteStatus
  /-- The value is accepted and stored. -/
  | WRITTEN
  /-- The device rejected the write or could not perform it. -/
  | FAILED
  /-- Nothing done, by design. -/
  | IGNORED
deriving DecidableEq, Repr

/-- What stands behind a `Device`: its two operations over its own state (R44). Whether a read changes that state is
the device's own affair (R47). -/
structure DeviceImpl (σ : Type) where
  read  : σ → (absolute relative : Address) → Byte × σ
  write : σ → (absolute relative : Address) → Byte → WriteStatus × σ

/-- An implementation in use, and the number of handles that refer to it (R46). Its type of state is erased: it is a
field, so devices of every type stand in one store. -/
structure DeviceCell where
  σ       : Type
  impl    : DeviceImpl σ
  state   : σ
  handles : Nat

/-- The cell of an implementation after an access left it in another state. -/
def DeviceCell.moved (c : DeviceCell) (state : c.σ) : DeviceCell := ⟨c.σ, c.impl, state, c.handles⟩

/-- A `Device`: an opaque, copyable handle (R46). -/
structure Device where
  id : Nat
deriving DecidableEq, Repr

/-- The implementations of all devices, of whatever types (RAM, ROM, peripherals), stored uniformly by handle (R46);
`none` where the last handle is gone. -/
abbrev Devices := List (Option DeviceCell)

/-- The implementation behind a handle. -/
def Devices.cell (ds : Devices) (d : Device) : Option DeviceCell := (ds[d.id]?).join

/-- Wrap any implementation, erasing its concrete type: a first handle to it (R46). -/
def Devices.wrap {σ : Type} (ds : Devices) (impl : DeviceImpl σ) (init : σ) : Device × Devices :=
  (⟨ds.length⟩, ds ++ [some ⟨σ, impl, init, 1⟩])

/-- Copy a handle: the copy shares the implementation (R46). -/
def Devices.copy (ds : Devices) (d : Device) : Option (Device × Devices) :=
  (ds.cell d).map fun c => (d, ds.set d.id (some { c with handles := c.handles + 1 }))

/-- Destroy a handle: the implementation goes with the last one (R46). -/
def Devices.drop (ds : Devices) (d : Device) : Option Devices :=
  (ds.cell d).map fun c =>
    ds.set d.id (if c.handles ≤ 1 then none else some { c with handles := c.handles - 1 })

/-- A read through a handle (R44). -/
def Devices.read (ds : Devices) (d : Device) (absolute relative : Address) : Option (Byte × Devices) :=
  (ds.cell d).map fun c =>
    let r := c.impl.read c.state absolute relative
    (r.1, ds.set d.id (some (c.moved r.2)))

/-- A write through a handle: failure is a status (R45, R204). -/
def Devices.write (ds : Devices) (d : Device) (absolute relative : Address) (value : Byte) :
    Option (WriteStatus × Devices) :=
  (ds.cell d).map fun c =>
    let r := c.impl.write c.state absolute relative value
    (r.1, ds.set d.id (some (c.moved r.2)))

end Sys2Proof.Machine
end

