-- ==== Sys2Proof/Machine/ReferenceHost.lean ====
section
/-! DEFINITION. The reference host `Walk` of 95_test_vectors.md section 5 (D22): the spec's own harness over the block's
two operations. It is no part of the block, and a real host may do otherwise (R226; log entry 17). -/

namespace Sys2Proof.Machine

/-- Which set or sets the host queries. -/
inductive WalkPolicy
  | STANDARD | NMOS | NMOS_FIRST
deriving DecidableEq, Repr

/-- One line of the trace. -/
structure WalkRow where
  pos  : Nat
  desc : Descriptor
  hint : Option PageBoundary
  cost : Cycles
deriving DecidableEq, Repr

/-- The host's own state: a position, the cycles charged so far, the trace. -/
structure WalkState where
  pos   : Nat
  total : Nat
  trace : List WalkRow
deriving DecidableEq, Repr

/-- The query a policy makes for a byte (R95, R229). -/
def walkQuery (p : WalkPolicy) (b : Byte) : Descriptor :=
  match p with
  | .STANDARD   => asInstruction b .STANDARD
  | .NMOS       => asInstruction b .NMOS
  | .NMOS_FIRST => asInstructionNmosFirst b

/-- What the host charges: the base cost without a hint (R225), the calculator's result with one. -/
def walkCost (d : Descriptor) : Option PageBoundary → Cycles
  | none   => d.cycles
  | some r => cyclesWithPenalty d r

/-- One turn of the loop at a byte `b`; `none` where operand bytes are missing and the host refuses. -/
def walkTurn (byteCount : Nat) (p : WalkPolicy) (hints : List (Nat × PageBoundary)) (b : Byte)
    (w : WalkState) : Option WalkState :=
  let d := walkQuery p b
  if byteCount < w.pos + d.length.toNat then none
  else
    let h := hints.lookup w.pos
    let c := walkCost d h
    some ⟨w.pos + d.length.toNat, w.total + c.toNat, w.trace ++ [⟨w.pos, d, h, c⟩]⟩

/-- The loop, with one unit of fuel a turn. -/
def walkLoop (bytes : List Byte) (p : WalkPolicy) (hints : List (Nat × PageBoundary)) :
    Nat → WalkState → Option WalkState
  | 0,        w => some w
  | fuel + 1, w =>
    match bytes[w.pos]? with
    | none   => some w
    | some b =>
      match walkTurn bytes.length p hints b w with
      | none    => none
      | some w' => walkLoop bytes p hints fuel w'

/-- `Walk(bytes, policy, hints)`: one turn a byte at most, since every length is at least 1. -/
def walk (bytes : List Byte) (p : WalkPolicy) (hints : List (Nat × PageBoundary)) : Option WalkState :=
  walkLoop bytes p hints bytes.length ⟨0, 0, []⟩

end Sys2Proof.Machine
end

