-- ==== Sys2Proof/Certificates/Slice0/Obligations.lean ====
section
/-! DEFINITION. The statements for the provers. First the tables of the rules R120 to R195, transcribed from files 43_ to
47_ (apart from `table` and `romImage`, which are transcribed from R58 and R70), then the obligations. -/

namespace Sys2Proof.Rules

open Sys2Proof.Machine

/-- A row of the table under a per-mnemonic rule, its columns in the rule's order; `instr` is the constructor of `Instr`
that stands for the row. -/
structure RuleRow where
  instr    : Instr
  opcode   : Byte
  mode     : AddressingMode
  length   : Length
  base     : BaseCycles
  official : Bool
  word     : RomWord
  cls      : PenaltyClass
  same     : Cycles
  crossed  : Cycles

/-- A rule R120 to R195: the mnemonic, its code and class, and the rows of its table. -/
structure MnemonicRule where
  mnemonic : Mnemonic
  code     : MnemonicCode
  set      : InstructionSet
  rows     : List RuleRow

/-- The descriptor a rule gives for a row: `(opcode = b, mnemonic, addressing_mode = mode, length, cycles = base cycles,
instruction_set)`. -/
def RuleRow.descriptor (r : RuleRow) (ru : MnemonicRule) : Descriptor :=
  ⟨r.opcode, ru.mnemonic, r.mode, r.length, r.base.setWidth 64, ru.set⟩

/-- The state in which `b` stands on `dec_opcode`, the six DEC outputs show `d` and, if the host feeds them to PEN, PEN's
inputs show it too and its result is `same` or `crossed` by the page relation; if the host does not, PEN's inputs are as
in `s` and its result is what unit PEN drives for them. Every other port is as in `s`. -/
def answered (s : State) (b : Byte) (d : Descriptor) (same crossed : Cycles) : State :=
  let fed := s.query = .decodeAndCost
  { s with
    decOpcode   := b
    insOpcode   := d.opcode
    insMnemonic := d.mnemonic
    insMode     := d.mode
    insLength   := d.length
    insCycles   := d.cycles
    insSet      := d.instructionSet
    penMnemonic := if fed then d.mnemonic.code else s.penMnemonic
    penMode     := if fed then d.mode.code else s.penMode
    penCycles   := if fed then d.cycles else s.penCycles
    penResult   :=
      if fed then (if s.penPageRelation = .SAME then same else crossed)
      else penOutput s.penMnemonic s.penMode s.penCycles s.penPageRelation }

/-- The sentinel of R93, its `opcode` the open parameter. -/
def sentinelOf (b : Byte) : Descriptor := ⟨Config.sentinelOpcode b, .NOP, .Implied, 1, 2, .STANDARD⟩

/-- What a rule says of one row: its entry, ROM word, length, class and costs; what `as_instruction` answers under either
set and `cycles_with_penalty` under either relation; and that the row's instruction RUNS, from every state, into the
state in which the ports show exactly that, everything else unchanged, no flag written and no exception raised. -/
def RowHolds (ru : MnemonicRule) (r : RuleRow) : Prop :=
  decodeByte r.opcode = r.instr ∧ encodeByte r.instr = r.opcode ∧
  table r.opcode = ⟨ru.mnemonic, r.mode, r.base⟩ ∧
  romImage r.opcode = r.word ∧ romWord (table r.opcode) = r.word ∧
  instructionLength r.mode = r.length ∧ r.instr.operandCount = r.length.toNat - 1 ∧
  officialOpcode r.opcode = r.official ∧ penaltyClass ru.mnemonic r.mode = r.cls ∧
  asInstruction r.opcode ru.set = r.descriptor ru ∧
  asInstruction r.opcode ru.set.other = sentinelOf r.opcode ∧
  cyclesWithPenalty (r.descriptor ru) .SAME = r.same ∧
  cyclesWithPenalty (r.descriptor ru) .CROSSED = r.crossed ∧
  (∀ s : State, s.decRequestedSet = ru.set →
    exec r.instr s = .next (answered s r.opcode (r.descriptor ru) r.same r.crossed)) ∧
  (∀ s : State, s.decRequestedSet ≠ ru.set →
    exec r.instr s = .next (answered s r.opcode (sentinelOf r.opcode) 2 2))

/-- A whole rule: the mnemonic's code and class, that exactly the listed bytes carry it, and every row. -/
def RuleHolds (ru : MnemonicRule) : Prop :=
  ru.mnemonic.code = ru.code ∧ classify ru.mnemonic = ru.set ∧
  (∀ b, (table b).mnemonic = ru.mnemonic ↔ b ∈ ru.rows.map RuleRow.opcode) ∧
  ∀ r ∈ ru.rows, RowHolds ru r

/-- The 256 opcode bytes. -/
def allBytes : List Byte := (List.range 256).map (BitVec.ofNat 8)

/-- How many opcode bytes have a property. -/
def countBytes (p : Byte → Bool) : Nat := allBytes.countP p

/-- The eight branch mnemonics, as R102 lists them. -/
def branches : List Mnemonic := [.BCC, .BCS, .BEQ, .BMI, .BNE, .BPL, .BVC, .BVS]

/-- The eleven penalised read mnemonics, as R103 lists them. -/
def penalisedReads : List Mnemonic := [.ADC, .AND, .CMP, .EOR, .LAS, .LAX, .LDA, .LDX, .LDY, .ORA, .SBC]

/-- The three penalised modes, as R103 lists them. -/
def penalisedModes : List AddressingMode := [.AbsoluteX, .AbsoluteY, .IndirectY]

/-- R120. -/
def ruleLDA : MnemonicRule where
  mnemonic := .LDA
  code := 29
  set := .STANDARD
  rows := [
    ⟨.ldaA1, 0xA1, .IndirectX, 2, 6, true, 0x1D76, .NONE, 6, 6⟩,
    ⟨.ldaA5, 0xA5, .ZeroPage, 2, 3, true, 0x1DA3, .NONE, 3, 3⟩,
    ⟨.ldaA9, 0xA9, .Immediate, 2, 2, true, 0x1D42, .NONE, 2, 2⟩,
    ⟨.ldaAD, 0xAD, .Absolute, 3, 4, true, 0x1D04, .NONE, 4, 4⟩,
    ⟨.ldaB1, 0xB1, .IndirectY, 2, 5, true, 0x1D85, .INDEXED_READ, 5, 6⟩,
    ⟨.ldaB5, 0xB5, .ZeroPageX, 2, 4, true, 0x1DB4, .NONE, 4, 4⟩,
    ⟨.ldaB9, 0xB9, .AbsoluteY, 3, 4, true, 0x1D24, .INDEXED_READ, 4, 5⟩,
    ⟨.ldaBD, 0xBD, .AbsoluteX, 3, 4, true, 0x1D14, .INDEXED_READ, 4, 5⟩]

/-- R121. -/
def ruleLDX : MnemonicRule where
  mnemonic := .LDX
  code := 30
  set := .STANDARD
  rows := [
    ⟨.ldxA2, 0xA2, .Immediate, 2, 2, true, 0x1E42, .NONE, 2, 2⟩,
    ⟨.ldxA6, 0xA6, .ZeroPage, 2, 3, true, 0x1EA3, .NONE, 3, 3⟩,
    ⟨.ldxAE, 0xAE, .Absolute, 3, 4, true, 0x1E04, .NONE, 4, 4⟩,
    ⟨.ldxB6, 0xB6, .ZeroPageY, 2, 4, true, 0x1EC4, .NONE, 4, 4⟩,
    ⟨.ldxBE, 0xBE, .AbsoluteY, 3, 4, true, 0x1E24, .INDEXED_READ, 4, 5⟩]

/-- R122. -/
def ruleLDY : MnemonicRule where
  mnemonic := .LDY
  code := 31
  set := .STANDARD
  rows := [
    ⟨.ldyA0, 0xA0, .Immediate, 2, 2, true, 0x1F42, .NONE, 2, 2⟩,
    ⟨.ldyA4, 0xA4, .ZeroPage, 2, 3, true, 0x1FA3, .NONE, 3, 3⟩,
    ⟨.ldyAC, 0xAC, .Absolute, 3, 4, true, 0x1F04, .NONE, 4, 4⟩,
    ⟨.ldyB4, 0xB4, .ZeroPageX, 2, 4, true, 0x1FB4, .NONE, 4, 4⟩,
    ⟨.ldyBC, 0xBC, .AbsoluteX, 3, 4, true, 0x1F14, .INDEXED_READ, 4, 5⟩]

/-- R123. -/
def ruleSTA : MnemonicRule where
  mnemonic := .STA
  code := 47
  set := .STANDARD
  rows := [
    ⟨.sta81, 0x81, .IndirectX, 2, 6, true, 0x2F76, .NONE, 6, 6⟩,
    ⟨.sta85, 0x85, .ZeroPage, 2, 3, true, 0x2FA3, .NONE, 3, 3⟩,
    ⟨.sta8D, 0x8D, .Absolute, 3, 4, true, 0x2F04, .NONE, 4, 4⟩,
    ⟨.sta91, 0x91, .IndirectY, 2, 6, true, 0x2F86, .NONE, 6, 6⟩,
    ⟨.sta95, 0x95, .ZeroPageX, 2, 4, true, 0x2FB4, .NONE, 4, 4⟩,
    ⟨.sta99, 0x99, .AbsoluteY, 3, 5, true, 0x2F25, .NONE, 5, 5⟩,
    ⟨.sta9D, 0x9D, .AbsoluteX, 3, 5, true, 0x2F15, .NONE, 5, 5⟩]

/-- R124. -/
def ruleSTX : MnemonicRule where
  mnemonic := .STX
  code := 48
  set := .STANDARD
  rows := [
    ⟨.stx86, 0x86, .ZeroPage, 2, 3, true, 0x30A3, .NONE, 3, 3⟩,
    ⟨.stx8E, 0x8E, .Absolute, 3, 4, true, 0x3004, .NONE, 4, 4⟩,
    ⟨.stx96, 0x96, .ZeroPageY, 2, 4, true, 0x30C4, .NONE, 4, 4⟩]

/-- R125. -/
def ruleSTY : MnemonicRule where
  mnemonic := .STY
  code := 49
  set := .STANDARD
  rows := [
    ⟨.sty84, 0x84, .ZeroPage, 2, 3, true, 0x31A3, .NONE, 3, 3⟩,
    ⟨.sty8C, 0x8C, .Absolute, 3, 4, true, 0x3104, .NONE, 4, 4⟩,
    ⟨.sty94, 0x94, .ZeroPageX, 2, 4, true, 0x31B4, .NONE, 4, 4⟩]

/-- R126. -/
def ruleTAX : MnemonicRule where
  mnemonic := .TAX
  code := 50
  set := .STANDARD
  rows := [
    ⟨.taxAA, 0xAA, .Implied, 1, 2, true, 0x3252, .NONE, 2, 2⟩]

/-- R127. -/
def ruleTAY : MnemonicRule where
  mnemonic := .TAY
  code := 51
  set := .STANDARD
  rows := [
    ⟨.tayA8, 0xA8, .Implied, 1, 2, true, 0x3352, .NONE, 2, 2⟩]

/-- R128. -/
def ruleTSX : MnemonicRule where
  mnemonic := .TSX
  code := 52
  set := .STANDARD
  rows := [
    ⟨.tsxBA, 0xBA, .Implied, 1, 2, true, 0x3452, .NONE, 2, 2⟩]

/-- R129. -/
def ruleTXA : MnemonicRule where
  mnemonic := .TXA
  code := 53
  set := .STANDARD
  rows := [
    ⟨.txa8A, 0x8A, .Implied, 1, 2, true, 0x3552, .NONE, 2, 2⟩]

/-- R130. -/
def ruleTXS : MnemonicRule where
  mnemonic := .TXS
  code := 54
  set := .STANDARD
  rows := [
    ⟨.txs9A, 0x9A, .Implied, 1, 2, true, 0x3652, .NONE, 2, 2⟩]

/-- R131. -/
def ruleTYA : MnemonicRule where
  mnemonic := .TYA
  code := 55
  set := .STANDARD
  rows := [
    ⟨.tya98, 0x98, .Implied, 1, 2, true, 0x3752, .NONE, 2, 2⟩]

/-- R132. -/
def ruleADC : MnemonicRule where
  mnemonic := .ADC
  code := 0
  set := .STANDARD
  rows := [
    ⟨.adc61, 0x61, .IndirectX, 2, 6, true, 0x0076, .NONE, 6, 6⟩,
    ⟨.adc65, 0x65, .ZeroPage, 2, 3, true, 0x00A3, .NONE, 3, 3⟩,
    ⟨.adc69, 0x69, .Immediate, 2, 2, true, 0x0042, .NONE, 2, 2⟩,
    ⟨.adc6D, 0x6D, .Absolute, 3, 4, true, 0x0004, .NONE, 4, 4⟩,
    ⟨.adc71, 0x71, .IndirectY, 2, 5, true, 0x0085, .INDEXED_READ, 5, 6⟩,
    ⟨.adc75, 0x75, .ZeroPageX, 2, 4, true, 0x00B4, .NONE, 4, 4⟩,
    ⟨.adc79, 0x79, .AbsoluteY, 3, 4, true, 0x0024, .INDEXED_READ, 4, 5⟩,
    ⟨.adc7D, 0x7D, .AbsoluteX, 3, 4, true, 0x0014, .INDEXED_READ, 4, 5⟩]

/-- R133. -/
def ruleSBC : MnemonicRule where
  mnemonic := .SBC
  code := 43
  set := .STANDARD
  rows := [
    ⟨.sbcE1, 0xE1, .IndirectX, 2, 6, true, 0x2B76, .NONE, 6, 6⟩,
    ⟨.sbcE5, 0xE5, .ZeroPage, 2, 3, true, 0x2BA3, .NONE, 3, 3⟩,
    ⟨.sbcE9, 0xE9, .Immediate, 2, 2, true, 0x2B42, .NONE, 2, 2⟩,
    ⟨.sbcEB, 0xEB, .Immediate, 2, 2, false, 0x2B42, .NONE, 2, 2⟩,
    ⟨.sbcED, 0xED, .Absolute, 3, 4, true, 0x2B04, .NONE, 4, 4⟩,
    ⟨.sbcF1, 0xF1, .IndirectY, 2, 5, true, 0x2B85, .INDEXED_READ, 5, 6⟩,
    ⟨.sbcF5, 0xF5, .ZeroPageX, 2, 4, true, 0x2BB4, .NONE, 4, 4⟩,
    ⟨.sbcF9, 0xF9, .AbsoluteY, 3, 4, true, 0x2B24, .INDEXED_READ, 4, 5⟩,
    ⟨.sbcFD, 0xFD, .AbsoluteX, 3, 4, true, 0x2B14, .INDEXED_READ, 4, 5⟩]

/-- R134. -/
def ruleAND : MnemonicRule where
  mnemonic := .AND
  code := 1
  set := .STANDARD
  rows := [
    ⟨.and21, 0x21, .IndirectX, 2, 6, true, 0x0176, .NONE, 6, 6⟩,
    ⟨.and25, 0x25, .ZeroPage, 2, 3, true, 0x01A3, .NONE, 3, 3⟩,
    ⟨.and29, 0x29, .Immediate, 2, 2, true, 0x0142, .NONE, 2, 2⟩,
    ⟨.and2D, 0x2D, .Absolute, 3, 4, true, 0x0104, .NONE, 4, 4⟩,
    ⟨.and31, 0x31, .IndirectY, 2, 5, true, 0x0185, .INDEXED_READ, 5, 6⟩,
    ⟨.and35, 0x35, .ZeroPageX, 2, 4, true, 0x01B4, .NONE, 4, 4⟩,
    ⟨.and39, 0x39, .AbsoluteY, 3, 4, true, 0x0124, .INDEXED_READ, 4, 5⟩,
    ⟨.and3D, 0x3D, .AbsoluteX, 3, 4, true, 0x0114, .INDEXED_READ, 4, 5⟩]

/-- R135. -/
def ruleORA : MnemonicRule where
  mnemonic := .ORA
  code := 34
  set := .STANDARD
  rows := [
    ⟨.ora01, 0x01, .IndirectX, 2, 6, true, 0x2276, .NONE, 6, 6⟩,
    ⟨.ora05, 0x05, .ZeroPage, 2, 3, true, 0x22A3, .NONE, 3, 3⟩,
    ⟨.ora09, 0x09, .Immediate, 2, 2, true, 0x2242, .NONE, 2, 2⟩,
    ⟨.ora0D, 0x0D, .Absolute, 3, 4, true, 0x2204, .NONE, 4, 4⟩,
    ⟨.ora11, 0x11, .IndirectY, 2, 5, true, 0x2285, .INDEXED_READ, 5, 6⟩,
    ⟨.ora15, 0x15, .ZeroPageX, 2, 4, true, 0x22B4, .NONE, 4, 4⟩,
    ⟨.ora19, 0x19, .AbsoluteY, 3, 4, true, 0x2224, .INDEXED_READ, 4, 5⟩,
    ⟨.ora1D, 0x1D, .AbsoluteX, 3, 4, true, 0x2214, .INDEXED_READ, 4, 5⟩]

/-- R136. -/
def ruleEOR : MnemonicRule where
  mnemonic := .EOR
  code := 23
  set := .STANDARD
  rows := [
    ⟨.eor41, 0x41, .IndirectX, 2, 6, true, 0x1776, .NONE, 6, 6⟩,
    ⟨.eor45, 0x45, .ZeroPage, 2, 3, true, 0x17A3, .NONE, 3, 3⟩,
    ⟨.eor49, 0x49, .Immediate, 2, 2, true, 0x1742, .NONE, 2, 2⟩,
    ⟨.eor4D, 0x4D, .Absolute, 3, 4, true, 0x1704, .NONE, 4, 4⟩,
    ⟨.eor51, 0x51, .IndirectY, 2, 5, true, 0x1785, .INDEXED_READ, 5, 6⟩,
    ⟨.eor55, 0x55, .ZeroPageX, 2, 4, true, 0x17B4, .NONE, 4, 4⟩,
    ⟨.eor59, 0x59, .AbsoluteY, 3, 4, true, 0x1724, .INDEXED_READ, 4, 5⟩,
    ⟨.eor5D, 0x5D, .AbsoluteX, 3, 4, true, 0x1714, .INDEXED_READ, 4, 5⟩]

/-- R137. -/
def ruleCMP : MnemonicRule where
  mnemonic := .CMP
  code := 17
  set := .STANDARD
  rows := [
    ⟨.cmpC1, 0xC1, .IndirectX, 2, 6, true, 0x1176, .NONE, 6, 6⟩,
    ⟨.cmpC5, 0xC5, .ZeroPage, 2, 3, true, 0x11A3, .NONE, 3, 3⟩,
    ⟨.cmpC9, 0xC9, .Immediate, 2, 2, true, 0x1142, .NONE, 2, 2⟩,
    ⟨.cmpCD, 0xCD, .Absolute, 3, 4, true, 0x1104, .NONE, 4, 4⟩,
    ⟨.cmpD1, 0xD1, .IndirectY, 2, 5, true, 0x1185, .INDEXED_READ, 5, 6⟩,
    ⟨.cmpD5, 0xD5, .ZeroPageX, 2, 4, true, 0x11B4, .NONE, 4, 4⟩,
    ⟨.cmpD9, 0xD9, .AbsoluteY, 3, 4, true, 0x1124, .INDEXED_READ, 4, 5⟩,
    ⟨.cmpDD, 0xDD, .AbsoluteX, 3, 4, true, 0x1114, .INDEXED_READ, 4, 5⟩]

/-- R138. -/
def ruleCPX : MnemonicRule where
  mnemonic := .CPX
  code := 18
  set := .STANDARD
  rows := [
    ⟨.cpxE0, 0xE0, .Immediate, 2, 2, true, 0x1242, .NONE, 2, 2⟩,
    ⟨.cpxE4, 0xE4, .ZeroPage, 2, 3, true, 0x12A3, .NONE, 3, 3⟩,
    ⟨.cpxEC, 0xEC, .Absolute, 3, 4, true, 0x1204, .NONE, 4, 4⟩]

/-- R139. -/
def ruleCPY : MnemonicRule where
  mnemonic := .CPY
  code := 19
  set := .STANDARD
  rows := [
    ⟨.cpyC0, 0xC0, .Immediate, 2, 2, true, 0x1342, .NONE, 2, 2⟩,
    ⟨.cpyC4, 0xC4, .ZeroPage, 2, 3, true, 0x13A3, .NONE, 3, 3⟩,
    ⟨.cpyCC, 0xCC, .Absolute, 3, 4, true, 0x1304, .NONE, 4, 4⟩]

/-- R140. -/
def ruleBIT : MnemonicRule where
  mnemonic := .BIT
  code := 6
  set := .STANDARD
  rows := [
    ⟨.bit24, 0x24, .ZeroPage, 2, 3, true, 0x06A3, .NONE, 3, 3⟩,
    ⟨.bit2C, 0x2C, .Absolute, 3, 4, true, 0x0604, .NONE, 4, 4⟩]

/-- R141. -/
def ruleINC : MnemonicRule where
  mnemonic := .INC
  code := 24
  set := .STANDARD
  rows := [
    ⟨.incE6, 0xE6, .ZeroPage, 2, 5, true, 0x18A5, .NONE, 5, 5⟩,
    ⟨.incEE, 0xEE, .Absolute, 3, 6, true, 0x1806, .NONE, 6, 6⟩,
    ⟨.incF6, 0xF6, .ZeroPageX, 2, 6, true, 0x18B6, .NONE, 6, 6⟩,
    ⟨.incFE, 0xFE, .AbsoluteX, 3, 7, true, 0x1817, .NONE, 7, 7⟩]

/-- R142. -/
def ruleINX : MnemonicRule where
  mnemonic := .INX
  code := 25
  set := .STANDARD
  rows := [
    ⟨.inxE8, 0xE8, .Implied, 1, 2, true, 0x1952, .NONE, 2, 2⟩]

/-- R143. -/
def ruleINY : MnemonicRule where
  mnemonic := .INY
  code := 26
  set := .STANDARD
  rows := [
    ⟨.inyC8, 0xC8, .Implied, 1, 2, true, 0x1A52, .NONE, 2, 2⟩]

/-- R144. -/
def ruleDEC : MnemonicRule where
  mnemonic := .DEC
  code := 20
  set := .STANDARD
  rows := [
    ⟨.decC6, 0xC6, .ZeroPage, 2, 5, true, 0x14A5, .NONE, 5, 5⟩,
    ⟨.decCE, 0xCE, .Absolute, 3, 6, true, 0x1406, .NONE, 6, 6⟩,
    ⟨.decD6, 0xD6, .ZeroPageX, 2, 6, true, 0x14B6, .NONE, 6, 6⟩,
    ⟨.decDE, 0xDE, .AbsoluteX, 3, 7, true, 0x1417, .NONE, 7, 7⟩]

/-- R145. -/
def ruleDEX : MnemonicRule where
  mnemonic := .DEX
  code := 21
  set := .STANDARD
  rows := [
    ⟨.dexCA, 0xCA, .Implied, 1, 2, true, 0x1552, .NONE, 2, 2⟩]

/-- R146. -/
def ruleDEY : MnemonicRule where
  mnemonic := .DEY
  code := 22
  set := .STANDARD
  rows := [
    ⟨.dey88, 0x88, .Implied, 1, 2, true, 0x1652, .NONE, 2, 2⟩]

/-- R147. -/
def ruleASL : MnemonicRule where
  mnemonic := .ASL
  code := 2
  set := .STANDARD
  rows := [
    ⟨.asl06, 0x06, .ZeroPage, 2, 5, true, 0x02A5, .NONE, 5, 5⟩,
    ⟨.asl0A, 0x0A, .Accumulator, 1, 2, true, 0x0232, .NONE, 2, 2⟩,
    ⟨.asl0E, 0x0E, .Absolute, 3, 6, true, 0x0206, .NONE, 6, 6⟩,
    ⟨.asl16, 0x16, .ZeroPageX, 2, 6, true, 0x02B6, .NONE, 6, 6⟩,
    ⟨.asl1E, 0x1E, .AbsoluteX, 3, 7, true, 0x0217, .NONE, 7, 7⟩]

/-- R148. -/
def ruleLSR : MnemonicRule where
  mnemonic := .LSR
  code := 32
  set := .STANDARD
  rows := [
    ⟨.lsr46, 0x46, .ZeroPage, 2, 5, true, 0x20A5, .NONE, 5, 5⟩,
    ⟨.lsr4A, 0x4A, .Accumulator, 1, 2, true, 0x2032, .NONE, 2, 2⟩,
    ⟨.lsr4E, 0x4E, .Absolute, 3, 6, true, 0x2006, .NONE, 6, 6⟩,
    ⟨.lsr56, 0x56, .ZeroPageX, 2, 6, true, 0x20B6, .NONE, 6, 6⟩,
    ⟨.lsr5E, 0x5E, .AbsoluteX, 3, 7, true, 0x2017, .NONE, 7, 7⟩]

/-- R149. -/
def ruleROL : MnemonicRule where
  mnemonic := .ROL
  code := 39
  set := .STANDARD
  rows := [
    ⟨.rol26, 0x26, .ZeroPage, 2, 5, true, 0x27A5, .NONE, 5, 5⟩,
    ⟨.rol2A, 0x2A, .Accumulator, 1, 2, true, 0x2732, .NONE, 2, 2⟩,
    ⟨.rol2E, 0x2E, .Absolute, 3, 6, true, 0x2706, .NONE, 6, 6⟩,
    ⟨.rol36, 0x36, .ZeroPageX, 2, 6, true, 0x27B6, .NONE, 6, 6⟩,
    ⟨.rol3E, 0x3E, .AbsoluteX, 3, 7, true, 0x2717, .NONE, 7, 7⟩]

/-- R150. -/
def ruleROR : MnemonicRule where
  mnemonic := .ROR
  code := 40
  set := .STANDARD
  rows := [
    ⟨.ror66, 0x66, .ZeroPage, 2, 5, true, 0x28A5, .NONE, 5, 5⟩,
    ⟨.ror6A, 0x6A, .Accumulator, 1, 2, true, 0x2832, .NONE, 2, 2⟩,
    ⟨.ror6E, 0x6E, .Absolute, 3, 6, true, 0x2806, .NONE, 6, 6⟩,
    ⟨.ror76, 0x76, .ZeroPageX, 2, 6, true, 0x28B6, .NONE, 6, 6⟩,
    ⟨.ror7E, 0x7E, .AbsoluteX, 3, 7, true, 0x2817, .NONE, 7, 7⟩]

/-- R151. -/
def ruleBCC : MnemonicRule where
  mnemonic := .BCC
  code := 3
  set := .STANDARD
  rows := [
    ⟨.bcc90, 0x90, .Relative, 2, 2, true, 0x0392, .BRANCH, 3, 4⟩]

/-- R152. -/
def ruleBCS : MnemonicRule where
  mnemonic := .BCS
  code := 4
  set := .STANDARD
  rows := [
    ⟨.bcsB0, 0xB0, .Relative, 2, 2, true, 0x0492, .BRANCH, 3, 4⟩]

/-- R153. -/
def ruleBEQ : MnemonicRule where
  mnemonic := .BEQ
  code := 5
  set := .STANDARD
  rows := [
    ⟨.beqF0, 0xF0, .Relative, 2, 2, true, 0x0592, .BRANCH, 3, 4⟩]

/-- R154. -/
def ruleBMI : MnemonicRule where
  mnemonic := .BMI
  code := 7
  set := .STANDARD
  rows := [
    ⟨.bmi30, 0x30, .Relative, 2, 2, true, 0x0792, .BRANCH, 3, 4⟩]

/-- R155. -/
def ruleBNE : MnemonicRule where
  mnemonic := .BNE
  code := 8
  set := .STANDARD
  rows := [
    ⟨.bneD0, 0xD0, .Relative, 2, 2, true, 0x0892, .BRANCH, 3, 4⟩]

/-- R156. -/
def ruleBPL : MnemonicRule where
  mnemonic := .BPL
  code := 9
  set := .STANDARD
  rows := [
    ⟨.bpl10, 0x10, .Relative, 2, 2, true, 0x0992, .BRANCH, 3, 4⟩]

/-- R157. -/
def ruleBVC : MnemonicRule where
  mnemonic := .BVC
  code := 11
  set := .STANDARD
  rows := [
    ⟨.bvc50, 0x50, .Relative, 2, 2, true, 0x0B92, .BRANCH, 3, 4⟩]

/-- R158. -/
def ruleBVS : MnemonicRule where
  mnemonic := .BVS
  code := 12
  set := .STANDARD
  rows := [
    ⟨.bvs70, 0x70, .Relative, 2, 2, true, 0x0C92, .BRANCH, 3, 4⟩]

/-- R159. -/
def ruleJMP : MnemonicRule where
  mnemonic := .JMP
  code := 27
  set := .STANDARD
  rows := [
    ⟨.jmp4C, 0x4C, .Absolute, 3, 3, true, 0x1B03, .NONE, 3, 3⟩,
    ⟨.jmp6C, 0x6C, .Indirect, 3, 5, true, 0x1B65, .NONE, 5, 5⟩]

/-- R160. -/
def ruleJSR : MnemonicRule where
  mnemonic := .JSR
  code := 28
  set := .STANDARD
  rows := [
    ⟨.jsr20, 0x20, .Absolute, 3, 6, true, 0x1C06, .NONE, 6, 6⟩]

/-- R161. -/
def ruleRTS : MnemonicRule where
  mnemonic := .RTS
  code := 42
  set := .STANDARD
  rows := [
    ⟨.rts60, 0x60, .Implied, 1, 6, true, 0x2A56, .NONE, 6, 6⟩]

/-- R162. -/
def ruleRTI : MnemonicRule where
  mnemonic := .RTI
  code := 41
  set := .STANDARD
  rows := [
    ⟨.rti40, 0x40, .Implied, 1, 6, true, 0x2956, .NONE, 6, 6⟩]

/-- R163. -/
def ruleBRK : MnemonicRule where
  mnemonic := .BRK
  code := 10
  set := .STANDARD
  rows := [
    ⟨.brk00, 0x00, .Implied, 1, 7, true, 0x0A57, .NONE, 7, 7⟩]

/-- R164. -/
def rulePHA : MnemonicRule where
  mnemonic := .PHA
  code := 35
  set := .STANDARD
  rows := [
    ⟨.pha48, 0x48, .Implied, 1, 3, true, 0x2353, .NONE, 3, 3⟩]

/-- R165. -/
def rulePHP : MnemonicRule where
  mnemonic := .PHP
  code := 36
  set := .STANDARD
  rows := [
    ⟨.php08, 0x08, .Implied, 1, 3, true, 0x2453, .NONE, 3, 3⟩]

/-- R166. -/
def rulePLA : MnemonicRule where
  mnemonic := .PLA
  code := 37
  set := .STANDARD
  rows := [
    ⟨.pla68, 0x68, .Implied, 1, 4, true, 0x2554, .NONE, 4, 4⟩]

/-- R167. -/
def rulePLP : MnemonicRule where
  mnemonic := .PLP
  code := 38
  set := .STANDARD
  rows := [
    ⟨.plp28, 0x28, .Implied, 1, 4, true, 0x2654, .NONE, 4, 4⟩]

/-- R168. -/
def ruleCLC : MnemonicRule where
  mnemonic := .CLC
  code := 13
  set := .STANDARD
  rows := [
    ⟨.clc18, 0x18, .Implied, 1, 2, true, 0x0D52, .NONE, 2, 2⟩]

/-- R169. -/
def ruleCLD : MnemonicRule where
  mnemonic := .CLD
  code := 14
  set := .STANDARD
  rows := [
    ⟨.cldD8, 0xD8, .Implied, 1, 2, true, 0x0E52, .NONE, 2, 2⟩]

/-- R170. -/
def ruleCLI : MnemonicRule where
  mnemonic := .CLI
  code := 15
  set := .STANDARD
  rows := [
    ⟨.cli58, 0x58, .Implied, 1, 2, true, 0x0F52, .NONE, 2, 2⟩]

/-- R171. -/
def ruleCLV : MnemonicRule where
  mnemonic := .CLV
  code := 16
  set := .STANDARD
  rows := [
    ⟨.clvB8, 0xB8, .Implied, 1, 2, true, 0x1052, .NONE, 2, 2⟩]

/-- R172. -/
def ruleSEC : MnemonicRule where
  mnemonic := .SEC
  code := 44
  set := .STANDARD
  rows := [
    ⟨.sec38, 0x38, .Implied, 1, 2, true, 0x2C52, .NONE, 2, 2⟩]

/-- R173. -/
def ruleSED : MnemonicRule where
  mnemonic := .SED
  code := 45
  set := .STANDARD
  rows := [
    ⟨.sedF8, 0xF8, .Implied, 1, 2, true, 0x2D52, .NONE, 2, 2⟩]

/-- R174. -/
def ruleSEI : MnemonicRule where
  mnemonic := .SEI
  code := 46
  set := .STANDARD
  rows := [
    ⟨.sei78, 0x78, .Implied, 1, 2, true, 0x2E52, .NONE, 2, 2⟩]

/-- R175. -/
def ruleNOP : MnemonicRule where
  mnemonic := .NOP
  code := 33
  set := .STANDARD
  rows := [
    ⟨.nop04, 0x04, .ZeroPage, 2, 3, false, 0x21A3, .NONE, 3, 3⟩,
    ⟨.nop0C, 0x0C, .Absolute, 3, 4, false, 0x2104, .NONE, 4, 4⟩,
    ⟨.nop14, 0x14, .ZeroPageX, 2, 4, false, 0x21B4, .NONE, 4, 4⟩,
    ⟨.nop1A, 0x1A, .Implied, 1, 2, false, 0x2152, .NONE, 2, 2⟩,
    ⟨.nop1C, 0x1C, .AbsoluteX, 3, 4, false, 0x2114, .NONE, 4, 4⟩,
    ⟨.nop34, 0x34, .ZeroPageX, 2, 4, false, 0x21B4, .NONE, 4, 4⟩,
    ⟨.nop3A, 0x3A, .Implied, 1, 2, false, 0x2152, .NONE, 2, 2⟩,
    ⟨.nop3C, 0x3C, .AbsoluteX, 3, 4, false, 0x2114, .NONE, 4, 4⟩,
    ⟨.nop44, 0x44, .ZeroPage, 2, 3, false, 0x21A3, .NONE, 3, 3⟩,
    ⟨.nop54, 0x54, .ZeroPageX, 2, 4, false, 0x21B4, .NONE, 4, 4⟩,
    ⟨.nop5A, 0x5A, .Implied, 1, 2, false, 0x2152, .NONE, 2, 2⟩,
    ⟨.nop5C, 0x5C, .AbsoluteX, 3, 4, false, 0x2114, .NONE, 4, 4⟩,
    ⟨.nop64, 0x64, .ZeroPage, 2, 3, false, 0x21A3, .NONE, 3, 3⟩,
    ⟨.nop74, 0x74, .ZeroPageX, 2, 4, false, 0x21B4, .NONE, 4, 4⟩,
    ⟨.nop7A, 0x7A, .Implied, 1, 2, false, 0x2152, .NONE, 2, 2⟩,
    ⟨.nop7C, 0x7C, .AbsoluteX, 3, 4, false, 0x2114, .NONE, 4, 4⟩,
    ⟨.nop80, 0x80, .Immediate, 2, 2, false, 0x2142, .NONE, 2, 2⟩,
    ⟨.nop82, 0x82, .Immediate, 2, 2, false, 0x2142, .NONE, 2, 2⟩,
    ⟨.nop89, 0x89, .Immediate, 2, 2, false, 0x2142, .NONE, 2, 2⟩,
    ⟨.nopC2, 0xC2, .Immediate, 2, 2, false, 0x2142, .NONE, 2, 2⟩,
    ⟨.nopD4, 0xD4, .ZeroPageX, 2, 4, false, 0x21B4, .NONE, 4, 4⟩,
    ⟨.nopDA, 0xDA, .Implied, 1, 2, false, 0x2152, .NONE, 2, 2⟩,
    ⟨.nopDC, 0xDC, .AbsoluteX, 3, 4, false, 0x2114, .NONE, 4, 4⟩,
    ⟨.nopE2, 0xE2, .Immediate, 2, 2, false, 0x2142, .NONE, 2, 2⟩,
    ⟨.nopEA, 0xEA, .Implied, 1, 2, true, 0x2152, .NONE, 2, 2⟩,
    ⟨.nopF4, 0xF4, .ZeroPageX, 2, 4, false, 0x21B4, .NONE, 4, 4⟩,
    ⟨.nopFA, 0xFA, .Implied, 1, 2, false, 0x2152, .NONE, 2, 2⟩,
    ⟨.nopFC, 0xFC, .AbsoluteX, 3, 4, false, 0x2114, .NONE, 4, 4⟩]

/-- R176. -/
def ruleALR : MnemonicRule where
  mnemonic := .ALR
  code := 56
  set := .NMOS
  rows := [
    ⟨.alr4B, 0x4B, .Immediate, 2, 2, false, 0x3842, .NONE, 2, 2⟩]

/-- R177. -/
def ruleANC : MnemonicRule where
  mnemonic := .ANC
  code := 57
  set := .NMOS
  rows := [
    ⟨.anc0B, 0x0B, .Immediate, 2, 2, false, 0x3942, .NONE, 2, 2⟩,
    ⟨.anc2B, 0x2B, .Immediate, 2, 2, false, 0x3942, .NONE, 2, 2⟩]

/-- R178. -/
def ruleANE : MnemonicRule where
  mnemonic := .ANE
  code := 58
  set := .NMOS
  rows := [
    ⟨.ane8B, 0x8B, .Immediate, 2, 2, false, 0x3A42, .NONE, 2, 2⟩]

/-- R179. -/
def ruleARR : MnemonicRule where
  mnemonic := .ARR
  code := 59
  set := .NMOS
  rows := [
    ⟨.arr6B, 0x6B, .Immediate, 2, 2, false, 0x3B42, .NONE, 2, 2⟩]

/-- R180. -/
def ruleDCP : MnemonicRule where
  mnemonic := .DCP
  code := 60
  set := .NMOS
  rows := [
    ⟨.dcpC3, 0xC3, .IndirectX, 2, 8, false, 0x3C78, .NONE, 8, 8⟩,
    ⟨.dcpC7, 0xC7, .ZeroPage, 2, 5, false, 0x3CA5, .NONE, 5, 5⟩,
    ⟨.dcpCF, 0xCF, .Absolute, 3, 6, false, 0x3C06, .NONE, 6, 6⟩,
    ⟨.dcpD3, 0xD3, .IndirectY, 2, 8, false, 0x3C88, .NONE, 8, 8⟩,
    ⟨.dcpD7, 0xD7, .ZeroPageX, 2, 6, false, 0x3CB6, .NONE, 6, 6⟩,
    ⟨.dcpDB, 0xDB, .AbsoluteY, 3, 7, false, 0x3C27, .NONE, 7, 7⟩,
    ⟨.dcpDF, 0xDF, .AbsoluteX, 3, 7, false, 0x3C17, .NONE, 7, 7⟩]

/-- R181. -/
def ruleISC : MnemonicRule where
  mnemonic := .ISC
  code := 61
  set := .NMOS
  rows := [
    ⟨.iscE3, 0xE3, .IndirectX, 2, 8, false, 0x3D78, .NONE, 8, 8⟩,
    ⟨.iscE7, 0xE7, .ZeroPage, 2, 5, false, 0x3DA5, .NONE, 5, 5⟩,
    ⟨.iscEF, 0xEF, .Absolute, 3, 6, false, 0x3D06, .NONE, 6, 6⟩,
    ⟨.iscF3, 0xF3, .IndirectY, 2, 8, false, 0x3D88, .NONE, 8, 8⟩,
    ⟨.iscF7, 0xF7, .ZeroPageX, 2, 6, false, 0x3DB6, .NONE, 6, 6⟩,
    ⟨.iscFB, 0xFB, .AbsoluteY, 3, 7, false, 0x3D27, .NONE, 7, 7⟩,
    ⟨.iscFF, 0xFF, .AbsoluteX, 3, 7, false, 0x3D17, .NONE, 7, 7⟩]

/-- R182. -/
def ruleJAM : MnemonicRule where
  mnemonic := .JAM
  code := 62
  set := .NMOS
  rows := [
    ⟨.jam02, 0x02, .Implied, 1, 0, false, 0x3E50, .NONE, 0, 0⟩,
    ⟨.jam12, 0x12, .Implied, 1, 0, false, 0x3E50, .NONE, 0, 0⟩,
    ⟨.jam22, 0x22, .Implied, 1, 0, false, 0x3E50, .NONE, 0, 0⟩,
    ⟨.jam32, 0x32, .Implied, 1, 0, false, 0x3E50, .NONE, 0, 0⟩,
    ⟨.jam42, 0x42, .Implied, 1, 0, false, 0x3E50, .NONE, 0, 0⟩,
    ⟨.jam52, 0x52, .Implied, 1, 0, false, 0x3E50, .NONE, 0, 0⟩,
    ⟨.jam62, 0x62, .Implied, 1, 0, false, 0x3E50, .NONE, 0, 0⟩,
    ⟨.jam72, 0x72, .Implied, 1, 0, false, 0x3E50, .NONE, 0, 0⟩,
    ⟨.jam92, 0x92, .Implied, 1, 0, false, 0x3E50, .NONE, 0, 0⟩,
    ⟨.jamB2, 0xB2, .Implied, 1, 0, false, 0x3E50, .NONE, 0, 0⟩,
    ⟨.jamD2, 0xD2, .Implied, 1, 0, false, 0x3E50, .NONE, 0, 0⟩,
    ⟨.jamF2, 0xF2, .Implied, 1, 0, false, 0x3E50, .NONE, 0, 0⟩]

/-- R183. -/
def ruleLAS : MnemonicRule where
  mnemonic := .LAS
  code := 63
  set := .NMOS
  rows := [
    ⟨.lasBB, 0xBB, .AbsoluteY, 3, 4, false, 0x3F24, .INDEXED_READ, 4, 5⟩]

/-- R184. -/
def ruleLAX : MnemonicRule where
  mnemonic := .LAX
  code := 64
  set := .NMOS
  rows := [
    ⟨.laxA3, 0xA3, .IndirectX, 2, 6, false, 0x4076, .NONE, 6, 6⟩,
    ⟨.laxA7, 0xA7, .ZeroPage, 2, 3, false, 0x40A3, .NONE, 3, 3⟩,
    ⟨.laxAF, 0xAF, .Absolute, 3, 4, false, 0x4004, .NONE, 4, 4⟩,
    ⟨.laxB3, 0xB3, .IndirectY, 2, 5, false, 0x4085, .INDEXED_READ, 5, 6⟩,
    ⟨.laxB7, 0xB7, .ZeroPageY, 2, 4, false, 0x40C4, .NONE, 4, 4⟩,
    ⟨.laxBF, 0xBF, .AbsoluteY, 3, 4, false, 0x4024, .INDEXED_READ, 4, 5⟩]

/-- R185. -/
def ruleLXA : MnemonicRule where
  mnemonic := .LXA
  code := 65
  set := .NMOS
  rows := [
    ⟨.lxaAB, 0xAB, .Immediate, 2, 2, false, 0x4142, .NONE, 2, 2⟩]

/-- R186. -/
def ruleRLA : MnemonicRule where
  mnemonic := .RLA
  code := 66
  set := .NMOS
  rows := [
    ⟨.rla23, 0x23, .IndirectX, 2, 8, false, 0x4278, .NONE, 8, 8⟩,
    ⟨.rla27, 0x27, .ZeroPage, 2, 5, false, 0x42A5, .NONE, 5, 5⟩,
    ⟨.rla2F, 0x2F, .Absolute, 3, 6, false, 0x4206, .NONE, 6, 6⟩,
    ⟨.rla33, 0x33, .IndirectY, 2, 8, false, 0x4288, .NONE, 8, 8⟩,
    ⟨.rla37, 0x37, .ZeroPageX, 2, 6, false, 0x42B6, .NONE, 6, 6⟩,
    ⟨.rla3B, 0x3B, .AbsoluteY, 3, 7, false, 0x4227, .NONE, 7, 7⟩,
    ⟨.rla3F, 0x3F, .AbsoluteX, 3, 7, false, 0x4217, .NONE, 7, 7⟩]

/-- R187. -/
def ruleRRA : MnemonicRule where
  mnemonic := .RRA
  code := 67
  set := .NMOS
  rows := [
    ⟨.rra63, 0x63, .IndirectX, 2, 8, false, 0x4378, .NONE, 8, 8⟩,
    ⟨.rra67, 0x67, .ZeroPage, 2, 5, false, 0x43A5, .NONE, 5, 5⟩,
    ⟨.rra6F, 0x6F, .Absolute, 3, 6, false, 0x4306, .NONE, 6, 6⟩,
    ⟨.rra73, 0x73, .IndirectY, 2, 8, false, 0x4388, .NONE, 8, 8⟩,
    ⟨.rra77, 0x77, .ZeroPageX, 2, 6, false, 0x43B6, .NONE, 6, 6⟩,
    ⟨.rra7B, 0x7B, .AbsoluteY, 3, 7, false, 0x4327, .NONE, 7, 7⟩,
    ⟨.rra7F, 0x7F, .AbsoluteX, 3, 7, false, 0x4317, .NONE, 7, 7⟩]

/-- R188. -/
def ruleSAX : MnemonicRule where
  mnemonic := .SAX
  code := 68
  set := .NMOS
  rows := [
    ⟨.sax83, 0x83, .IndirectX, 2, 6, false, 0x4476, .NONE, 6, 6⟩,
    ⟨.sax87, 0x87, .ZeroPage, 2, 3, false, 0x44A3, .NONE, 3, 3⟩,
    ⟨.sax8F, 0x8F, .Absolute, 3, 4, false, 0x4404, .NONE, 4, 4⟩,
    ⟨.sax97, 0x97, .ZeroPageY, 2, 4, false, 0x44C4, .NONE, 4, 4⟩]

/-- R189. -/
def ruleSBX : MnemonicRule where
  mnemonic := .SBX
  code := 69
  set := .NMOS
  rows := [
    ⟨.sbxCB, 0xCB, .Immediate, 2, 2, false, 0x4542, .NONE, 2, 2⟩]

/-- R190. -/
def ruleSHA : MnemonicRule where
  mnemonic := .SHA
  code := 70
  set := .NMOS
  rows := [
    ⟨.sha93, 0x93, .IndirectY, 2, 6, false, 0x4686, .NONE, 6, 6⟩,
    ⟨.sha9F, 0x9F, .AbsoluteY, 3, 5, false, 0x4625, .NONE, 5, 5⟩]

/-- R191. -/
def ruleSHX : MnemonicRule where
  mnemonic := .SHX
  code := 71
  set := .NMOS
  rows := [
    ⟨.shx9E, 0x9E, .AbsoluteY, 3, 5, false, 0x4725, .NONE, 5, 5⟩]

/-- R192. -/
def ruleSHY : MnemonicRule where
  mnemonic := .SHY
  code := 72
  set := .NMOS
  rows := [
    ⟨.shy9C, 0x9C, .AbsoluteX, 3, 5, false, 0x4815, .NONE, 5, 5⟩]

/-- R193. -/
def ruleSLO : MnemonicRule where
  mnemonic := .SLO
  code := 73
  set := .NMOS
  rows := [
    ⟨.slo03, 0x03, .IndirectX, 2, 8, false, 0x4978, .NONE, 8, 8⟩,
    ⟨.slo07, 0x07, .ZeroPage, 2, 5, false, 0x49A5, .NONE, 5, 5⟩,
    ⟨.slo0F, 0x0F, .Absolute, 3, 6, false, 0x4906, .NONE, 6, 6⟩,
    ⟨.slo13, 0x13, .IndirectY, 2, 8, false, 0x4988, .NONE, 8, 8⟩,
    ⟨.slo17, 0x17, .ZeroPageX, 2, 6, false, 0x49B6, .NONE, 6, 6⟩,
    ⟨.slo1B, 0x1B, .AbsoluteY, 3, 7, false, 0x4927, .NONE, 7, 7⟩,
    ⟨.slo1F, 0x1F, .AbsoluteX, 3, 7, false, 0x4917, .NONE, 7, 7⟩]

/-- R194. -/
def ruleSRE : MnemonicRule where
  mnemonic := .SRE
  code := 74
  set := .NMOS
  rows := [
    ⟨.sre43, 0x43, .IndirectX, 2, 8, false, 0x4A78, .NONE, 8, 8⟩,
    ⟨.sre47, 0x47, .ZeroPage, 2, 5, false, 0x4AA5, .NONE, 5, 5⟩,
    ⟨.sre4F, 0x4F, .Absolute, 3, 6, false, 0x4A06, .NONE, 6, 6⟩,
    ⟨.sre53, 0x53, .IndirectY, 2, 8, false, 0x4A88, .NONE, 8, 8⟩,
    ⟨.sre57, 0x57, .ZeroPageX, 2, 6, false, 0x4AB6, .NONE, 6, 6⟩,
    ⟨.sre5B, 0x5B, .AbsoluteY, 3, 7, false, 0x4A27, .NONE, 7, 7⟩,
    ⟨.sre5F, 0x5F, .AbsoluteX, 3, 7, false, 0x4A17, .NONE, 7, 7⟩]

/-- R195. -/
def ruleTAS : MnemonicRule where
  mnemonic := .TAS
  code := 75
  set := .NMOS
  rows := [
    ⟨.tas9B, 0x9B, .AbsoluteY, 3, 5, false, 0x4B25, .NONE, 5, 5⟩]

end Sys2Proof.Rules

open Sys2Proof Sys2Proof.Machine Sys2Proof.Rules

/-! ## Encoding -/

/-- Words written out bit by bit from R58, at least one of each family, decode to the instruction they stand for; so does
the three-byte word of `LDA` `Absolute` with the operand bytes 0x34, 0x12 (`PresentedWordRunsNext` has every operand). -/
def Obligations.OpcodeWordsDecode : Prop :=
  decodeTableWord 8 0b10101001 = some .ldaA9 ∧ decodeTableWord 8 0b10010110 = some .stx96 ∧
  decodeTableWord 8 0b10011010 = some .txs9A ∧ decodeTableWord 8 0b01111101 = some .adc7D ∧
  decodeTableWord 8 0b11101011 = some .sbcEB ∧ decodeTableWord 8 0b01101010 = some .ror6A ∧
  decodeTableWord 8 0b10010000 = some .bcc90 ∧ decodeTableWord 8 0b01101100 = some .jmp6C ∧
  decodeTableWord 8 0b00000000 = some .brk00 ∧ decodeTableWord 8 0b00101000 = some .plp28 ∧
  decodeTableWord 8 0b11111000 = some .sedF8 ∧ decodeTableWord 8 0b00011100 = some .nop1C ∧
  decodeTableWord 8 0b10111011 = some .lasBB ∧ decodeTableWord 8 0b11110010 = some .jamF2 ∧
  decodeTableWord 8 0b11111111 = some .iscFF ∧ decodeTableWord 24 0x1234AD = some .ldaAD

/-- Every instruction's opcode byte decodes to it, and every byte is the opcode byte of the instruction it decodes to:
the map from bytes to instructions is total and one to one. -/
def Obligations.OpcodeBytesAndInstructionsAgree : Prop :=
  (∀ i : Instr, decodeByte (encodeByte i) = i) ∧ (∀ b : Byte, encodeByte (decodeByte b) = b)

/-- Decode and encode agree on whole instructions: for every instruction with operand bytes of any value, as many as its
length asks for, and whatever bytes follow, decoding its bytes gives it back and leaves the rest; and its bytes are
`length` in number. -/
def Obligations.InstructionBytesRoundTrip : Prop :=
  ∀ (x : InstrBytes) (rest : List Byte), x.wellFormed = true →
    decodeInstrBytes (encode x ++ rest) = .ok (x, rest) ∧
    (encode x).length = (instructionLength (table (encodeByte x.instr)).mode).toNat

/-- The other direction: bytes that decode are the bytes of the well-formed instruction they decode to, followed by what
is left. -/
def Obligations.DecodedBytesReencode : Prop :=
  ∀ (bytes : List Byte) (x : InstrBytes) (rest : List Byte), decodeInstrBytes bytes = .ok (x, rest) →
    x.wellFormed = true ∧ encode x ++ rest = bytes

/-- A byte string is rejected only for want of bytes, and by name: none at all, or fewer operand bytes than the opcode's
length asks for. The opcode byte alone always decodes. The block sees no byte string (R26): that a short one is
rejected, and the names, are the model's choice (log entry 13). -/
def Obligations.ByteStringsRejectedOnlyWhenShort : Prop :=
  decodeInstrBytes [] = .error .noOpcodeByte ∧
  ∀ (b : Byte) (rest : List Byte),
    decode (b :: rest) = .ok (decodeByte b, rest) ∧
    (rest.length + 1 < (instructionLength (table b).mode).toNat →
      decodeInstrBytes (b :: rest) =
        .error (.operandBytesMissing (decodeByte b) ((instructionLength (table b).mode).toNat - 1) rest.length)) ∧
    ((instructionLength (table b).mode).toNat ≤ rest.length + 1 →
      ∃ x left, decodeInstrBytes (b :: rest) = .ok (x, left) ∧ x.instr = decodeByte b)

/-- The codes of R52 and R53: each is read back, a code denotes at most one value, and 76 to 127 and 13 to 15 denote
none (R64). The codes themselves are the spec's decisions D5 and D6 (log entry 12). -/
def Obligations.EnumerationCodesAreExact : Prop :=
  (∀ (c : MnemonicCode) (m : Mnemonic), Mnemonic.ofCode c = some m ↔ m.code = c) ∧
  (∀ c : MnemonicCode, (Mnemonic.ofCode c).isSome = true ↔ c.toNat < 76) ∧
  (∀ (c : ModeCode) (a : AddressingMode), AddressingMode.ofCode c = some a ↔ a.code = c) ∧
  (∀ c : ModeCode, (AddressingMode.ofCode c).isSome = true ↔ c.toNat < 13) ∧
  (∀ x : InstructionSet, InstructionSet.ofCode x.code = x) ∧ (∀ r : PageBoundary, PageBoundary.ofCode r.code = r)

/-- R84: on the codes of mnemonics, `classify` is the comparison `code >= 56`, and the gates
`code[6] or (code[5] and code[4] and code[3])`. It rests on the spec's codes (D5, log entry 12). -/
def Obligations.ClassIsOneComparison : Prop :=
  ∀ m : Mnemonic,
    (classify m).code = classBit m.code ∧ (classify m = .NMOS ↔ 56 ≤ m.code.toNat) ∧
    (classBitGates m.code = true ↔ classify m = .NMOS)

/-- R66 and R70: at every opcode the printed ROM image holds the word `{mnemonic, mode, base cycles}` of the table's
entry, each field at its bits, and reading the word back gives the entry. The layout is decision D8 and the contents D1
to D3 (log entries 2 and 12). -/
def Obligations.RomImageHoldsTheTable : Prop :=
  ∀ b : Byte,
    romImage b = romWord (table b) ∧
    (romImage b).extractLsb' 8 7 = (table b).mnemonic.code ∧
    (romImage b).extractLsb' 4 4 = (table b).mode.code ∧
    (romImage b).extractLsb' 0 4 = (table b).baseCycles ∧
    entryOfWord (romImage b) = some (table b)

/-- A ROM word and its entry determine each other: reading the word of any entry gives it back, and a word that reads as
an entry is that entry's word. -/
def Obligations.RomWordsAndEntriesAgree : Prop :=
  (∀ e : Entry, entryOfWord (romWord e) = some e) ∧
  (∀ (w : RomWord) (e : Entry), entryOfWord w = some e → romWord e = w)

/-! ## The taxonomy functions -/

/-- R81, all 13 modes; and the same function on mode codes, of which 13 to 15 are no modes (R53, R64). The codes are the
spec's decision D6 (log entry 12). -/
def Obligations.InstructionLengthByMode : Prop :=
  instructionLength .Accumulator = 1 ∧ instructionLength .Implied = 1 ∧
  instructionLength .Immediate = 2 ∧ instructionLength .Relative = 2 ∧ instructionLength .ZeroPage = 2 ∧
  instructionLength .ZeroPageX = 2 ∧ instructionLength .ZeroPageY = 2 ∧ instructionLength .IndirectX = 2 ∧
  instructionLength .IndirectY = 2 ∧
  instructionLength .Absolute = 3 ∧ instructionLength .AbsoluteX = 3 ∧ instructionLength .AbsoluteY = 3 ∧
  instructionLength .Indirect = 3 ∧
  (∀ a : AddressingMode, lengthOfModeCode a.code = instructionLength a) ∧
  (∀ c : ModeCode, 13 ≤ c.toNat → AddressingMode.ofCode c = none)

/-- R83: `NMOS` exactly for the 20 listed mnemonics, `STANDARD` for every other one. -/
def Obligations.ClassifyListsTwentyMnemonics : Prop :=
  ∀ m : Mnemonic,
    (m ∈ [Mnemonic.ALR, .ANC, .ANE, .ARR, .DCP, .ISC, .JAM, .LAS, .LAX, .LXA,
          .RLA, .RRA, .SAX, .SBX, .SHA, .SHX, .SHY, .SLO, .SRE, .TAS] → classify m = .NMOS) ∧
    (m ∉ [Mnemonic.ALR, .ANC, .ANE, .ARR, .DCP, .ISC, .JAM, .LAS, .LAX, .LXA,
          .RLA, .RRA, .SAX, .SBX, .SHA, .SHX, .SHY, .SLO, .SRE, .TAS] → classify m = .STANDARD)

/-! ## as_instruction -/

/-- The four steps of R91 for every table and every choice of the sentinel's `opcode` field, and the block's own table
and parameter put in. -/
def Obligations.AsInstructionFollowsItsSteps : Prop :=
  (∀ (tbl : Byte → Entry) (so : Byte → Byte) (b : Byte) (x : InstructionSet),
    (classify (tbl b).mnemonic = x →
      asInstructionWith tbl so b x =
        ⟨b, (tbl b).mnemonic, (tbl b).mode, instructionLength (tbl b).mode, (tbl b).baseCycles.setWidth 64,
          classify (tbl b).mnemonic⟩) ∧
    (classify (tbl b).mnemonic ≠ x →
      asInstructionWith tbl so b x = ⟨so b, .NOP, .Implied, 1, 2, .STANDARD⟩)) ∧
  (∀ (b : Byte) (x : InstructionSet),
    asInstruction b x = asInstructionWith table Config.sentinelOpcode b x)

/-- R94 and R95, for every table: one requested set gives the real decode and the other the sentinel, and asking `NMOS`
first and looking at `instruction_set` tells them apart. -/
def Obligations.ExactlyOneSetDecodes : Prop :=
  ∀ (tbl : Byte → Entry) (so : Byte → Byte) (b : Byte),
    (asInstructionWith tbl so b (classify (tbl b).mnemonic) = decodedDescriptor b (tbl b)) ∧
    (asInstructionWith tbl so b (classify (tbl b).mnemonic).other = sentinelWith so b) ∧
    ((asInstructionWith tbl so b .NMOS).instructionSet = .NMOS ↔ classify (tbl b).mnemonic = .NMOS) ∧
    ((asInstructionWith tbl so b .STANDARD).instructionSet = .STANDARD)

/-- R63: (a), (b) and (c) for every table and every choice of the sentinel's `opcode`; (d) for the block's own table,
whose contents are D1 to D3 (log entry 2). -/
def Obligations.DescriptorInvariants : Prop :=
  (∀ (tbl : Byte → Entry) (so : Byte → Byte) (b : Byte) (x : InstructionSet),
    let d := asInstructionWith tbl so b x
    d.length = instructionLength d.mode ∧ d.instructionSet = classify d.mnemonic ∧
    (d.instructionSet = x ∨ d = sentinelWith so b)) ∧
  (∀ (b : Byte) (x : InstructionSet),
    (asInstruction b x).wellFormed = true ∧
    (asInstruction b x).cycles.toNat ∈ [0, 2, 3, 4, 5, 6, 7, 8] ∧
    ((asInstruction b x).cycles = 0 ↔ (asInstruction b x).mnemonic = .JAM))

/-- R96: the real decodes that differ from the sentinel in nothing but `opcode` are those of 0xEA and of the six
undocumented implied no-operation bytes under `STANDARD`, and no others. It rests on D1 and D2 (log entry 2). -/
def Obligations.ImpliedNopsLookLikeTheSentinel : Prop :=
  ∀ (b : Byte) (x : InstructionSet), decodable b x = true →
    ({ asInstruction b x with opcode := 0 } = { sentinel b with opcode := 0 } ↔
      x = .STANDARD ∧ b ∈ [(0xEA : Byte), 0x1A, 0x3A, 0x5A, 0x7A, 0xDA, 0xFA])

/-- R95 and R229: a host that asks `NMOS` and falls back to `STANDARD` gets the real decode of every byte. -/
def Obligations.NmosFirstDecodesEveryByte : Prop :=
  ∀ b : Byte, asInstructionNmosFirst b = decodedDescriptor b (table b)

/-- The counts of R57 and of 95_test_vectors.md sections 2.1, 2.3 and 6, and the entries the source pins (R58): a check
of the table as a whole. The contents are D1 to D3 (log entry 2). -/
def Obligations.TableCensus : Prop :=
  countBytes (fun b => classify (table b).mnemonic == .STANDARD) = 179 ∧
  countBytes (fun b => classify (table b).mnemonic == .NMOS) = 77 ∧
  countBytes officialOpcode = 151 ∧
  allBytes.filter (fun b => (table b).mnemonic == .JAM) =
    [0x02, 0x12, 0x22, 0x32, 0x42, 0x52, 0x62, 0x72, 0x92, 0xB2, 0xD2, 0xF2] ∧
  [0, 2, 3, 4, 5, 6, 7, 8].map (fun n => countBytes fun b => (table b).baseCycles.toNat == n) =
    [12, 60, 23, 64, 27, 39, 19, 12] ∧
  [1, 2, 3].map (fun n => countBytes fun b => (instructionLength (table b).mode).toNat == n) = [47, 128, 81] ∧
  modesByCode.map (fun a => countBytes fun b => (table b).mode == a) =
    [32, 28, 20, 4, 24, 43, 1, 16, 16, 8, 32, 28, 4] ∧
  [PenaltyClass.BRANCH, .INDEXED_READ, .NONE].map
    (fun c => countBytes fun b => penaltyClass (table b).mnemonic (table b).mode == c) = [8, 26, 222] ∧
  mnemonicsByCode.all (fun m => allBytes.any fun b => (table b).mnemonic == m) = true ∧
  (allBytes.map fun b => (table b).baseCycles.toNat).sum = 1043 ∧
  (allBytes.map fun b => (romImage b).toNat).sum = 2573731 ∧
  allBytes.foldl (fun x b => x ^^^ romImage b) 0 = 0x4D37 ∧
  (table 0x90).mnemonic = .BCC ∧ ((table 0x7D).mnemonic, (table 0x7D).mode) = (.ADC, .AbsoluteX) ∧
  ((table 0x69).mnemonic, (table 0x69).mode) = (.ADC, .Immediate)

/-! ## cycles_with_penalty -/

/-- R105: the penalty by penalty class and page relation, each class with the pairs of mnemonic and mode that R101 puts
in it. The sum with the base cost is `CycleSumWrapsModuloTwoTo64`'s. The 1 of a crossed indexed read is the source's
own, which it flags as an open question (log entry 8). -/
def Obligations.PenaltyByClassAndRelation : Prop :=
  ∀ (m : Mnemonic) (a : AddressingMode),
    (m ∈ branches → penaltyClass m a = .BRANCH ∧
      penaltyOf (penaltyClass m a) .SAME = 1 ∧ penaltyOf (penaltyClass m a) .CROSSED = 2) ∧
    (m ∉ branches → m ∈ penalisedReads ∧ a ∈ penalisedModes → penaltyClass m a = .INDEXED_READ ∧
      penaltyOf (penaltyClass m a) .SAME = 0 ∧ penaltyOf (penaltyClass m a) .CROSSED = 1) ∧
    (m ∉ branches → ¬ (m ∈ penalisedReads ∧ a ∈ penalisedModes) → penaltyClass m a = .NONE ∧
      penaltyOf (penaltyClass m a) .SAME = 0 ∧ penaltyOf (penaltyClass m a) .CROSSED = 0)

/-- R102: a branch mnemonic takes the branch case whatever the mode and the base cost, and in the table, where every branch
costs 2 not taken (D1, log entry 2), it costs 3 taken on the same page and 4 across a page; the calculator always gives
more than the base cost, so none of its answers is the not-taken one (R225). -/
def Obligations.BranchPenaltyLooksAtTheMnemonicOnly : Prop :=
  (∀ (m : Mnemonic) (a : AddressingMode) (c : Cycles), m ∈ branches →
    penaltyResult m a c .SAME = c + 1 ∧ penaltyResult m a c .CROSSED = c + 2 ∧
    ∀ r, penaltyResult m a c r ≠ c) ∧
  (∀ b : Byte, (table b).mnemonic ∈ branches ↔ (table b).mode = .Relative) ∧
  (∀ b : Byte, (table b).mnemonic ∈ branches →
    (table b).baseCycles = 2 ∧
    cyclesWithPenalty (asInstruction b .STANDARD) .SAME = 3 ∧
    cyclesWithPenalty (asInstruction b .STANDARD) .CROSSED = 4)

/-- R103: the table's entries of the indexed-read class are exactly the 26 the rule names (their places are D1's, log entry
2), and for a listed mnemonic every mode but the three takes no penalty. The magnitude 1 is D17's (log entry 8). -/
def Obligations.IndexedReadPenaltyNeedsBothConditions : Prop :=
  (∀ b : Byte, penaltyClass (table b).mnemonic (table b).mode = .INDEXED_READ ↔
    b ∈ [(0x7D : Byte), 0x79, 0x71, 0x3D, 0x39, 0x31, 0xDD, 0xD9, 0xD1, 0x5D, 0x59, 0x51, 0xBD, 0xB9, 0xB1,
         0x1D, 0x19, 0x11, 0xFD, 0xF9, 0xF1, 0xBE, 0xBC, 0xBF, 0xB3, 0xBB]) ∧
  (∀ (m : Mnemonic) (a : AddressingMode) (c : Cycles) (r : PageBoundary), m ∈ penalisedReads → a ∉ penalisedModes →
    penaltyResult m a c r = c) ∧
  (∀ (m : Mnemonic) (a : AddressingMode) (c : Cycles), m ∈ penalisedReads → a ∈ penalisedModes →
    penaltyResult m a c .SAME = c ∧ penaltyResult m a c .CROSSED = c + 1)

/-- R104: stores, read-modify-writes, no-operations and every other mnemonic outside the two lists cost their base, in every
mode and under either relation. -/
def Obligations.UnlistedMnemonicsCostTheirBase : Prop :=
  ∀ (m : Mnemonic) (a : AddressingMode) (c : Cycles) (r : PageBoundary),
    m ∈ [Mnemonic.STA, .STX, .STY, .SAX, .SHA, .SHX, .SHY, .TAS, .ASL, .LSR, .ROL, .ROR, .INC, .DEC, .SLO, .RLA, .SRE,
         .RRA, .DCP, .ISC, .NOP, .BIT, .CPX, .CPY, .JMP, .JSR, .RTS, .RTI, .BRK, .PHA, .PHP, .PLA, .PLP, .CLC, .CLD,
         .CLI, .CLV, .SEC, .SED, .SEI, .JAM, .TAX, .TAY, .TSX, .TXA, .TXS, .TYA, .INX, .INY, .DEX, .DEY, .ALR, .ANC,
         .ANE, .ARR, .LXA, .SBX] ∨ (m ∉ branches ∧ m ∉ penalisedReads) →
    penaltyResult m a c r = c

/-- Crossing a page costs one cycle more exactly in the two penalised classes, and the penalty is 0, 1 or 2, modulo 2^64
(95_test_vectors.md 4.4 (a) and (b)). -/
def Obligations.CrossingCostsAtMostOneMore : Prop :=
  ∀ d : Descriptor,
    (cyclesWithPenalty d .CROSSED - cyclesWithPenalty d .SAME =
      if penaltyClass d.mnemonic d.mode = .NONE then 0 else 1) ∧
    (∀ r, cyclesWithPenalty d r - d.cycles ∈ [(0 : Cycles), 1, 2])

/-- R107: of a descriptor unit DEC gives, the cost is at most 8 in every class, at most 6 in the indexed-read class and at
most 4 for a branch, with no overflow; and it is 0 only for a `JAM` decode. It rests on D1 and D3 (log entry 2). -/
def Obligations.CostOfADecodeIsBounded : Prop :=
  ∀ (b : Byte) (x : InstructionSet) (r : PageBoundary),
    let d := asInstruction b x
    (cyclesWithPenalty d r).toNat = d.cycles.toNat + (penaltyOf (penaltyClass d.mnemonic d.mode) r).toNat ∧
    (cyclesWithPenalty d r).toNat ≤ 8 ∧
    (penaltyClass d.mnemonic d.mode = .INDEXED_READ → (cyclesWithPenalty d r).toNat ≤ 6) ∧
    (penaltyClass d.mnemonic d.mode = .BRANCH → (cyclesWithPenalty d r).toNat ≤ 4) ∧
    (cyclesWithPenalty d r = 0 ↔ (x = .NMOS ∧ (table b).mnemonic = .JAM))

/-- R100: the calculator reads `mnemonic`, `addressing_mode` and `cycles` and no other field. -/
def Obligations.CalculatorReadsThreeFields : Prop :=
  ∀ (d e : Descriptor) (r : PageBoundary),
    d.mnemonic = e.mnemonic → d.mode = e.mode → d.cycles = e.cycles → cyclesWithPenalty d r = cyclesWithPenalty e r

/-- R101 and R107: the result is `cycles` plus the penalty; the sum is taken modulo 2^64, which only a descriptor with `cycles` above 2^64 - 3 can show (D11, log entry
10). -/
def Obligations.CycleSumWrapsModuloTwoTo64 : Prop :=
  (∀ (d : Descriptor) (r : PageBoundary),
    (cyclesWithPenalty d r).toNat =
      (d.cycles.toNat + (penaltyOf (penaltyClass d.mnemonic d.mode) r).toNat) % 2 ^ 64) ∧
  (∀ (d : Descriptor) (r : PageBoundary), d.cycles.toNat ≤ 2 ^ 64 - 3 → d.cycles.toNat ≤ (cyclesWithPenalty d r).toNat) ∧
  penaltyResult .LDA .AbsoluteX (BitVec.ofNat 64 (2 ^ 64 - 1)) .CROSSED = 0 ∧
  penaltyResult .BPL .Relative (BitVec.ofNat 64 (2 ^ 64 - 1)) .CROSSED = 1 ∧
  penaltyResult .INC .AbsoluteX (BitVec.ofNat 64 (2 ^ 64 - 1)) .CROSSED = BitVec.ofNat 64 (2 ^ 64 - 1)

/-! ## The units at their bit-level ports -/

/-- Unit DEC built from the ROM image, the length logic, the class comparison and the sentinel multiplexer gives, for all
512 inputs, the bits of the descriptor that `as_instruction` gives. -/
def Obligations.DecHardwareRefinesAsInstruction : Prop :=
  ∀ (b : Byte) (x : InstructionSet), decUnit b x.code = (asInstruction b x).ports

/-- Unit PEN on bit patterns: on the codes of a mnemonic and a mode it gives the calculator's result, and on every other
pattern it is refused by name, the mnemonic's name first (R64; log entry 11). -/
def Obligations.PenHardwareRefusesNonValuesOnly : Prop :=
  ∀ (m : MnemonicCode) (a : ModeCode) (c : Cycles) (r : PageBoundary),
    (∀ v, penUnit m a c r = .ok v ↔
      ∃ mn md, mn.code = m ∧ AddressingMode.code md = a ∧ v = c + penaltyOf (penaltyClass mn md) r) ∧
    (76 ≤ m.toNat → penUnit m a c r = .error (.penMnemonicNotAValue m)) ∧
    (m.toNat < 76 → 13 ≤ a.toNat → penUnit m a c r = .error (.penModeNotAValue a))

/-! ## Every instruction runs, rule by rule. Each statement says, for every row of the rules it names, the row's entry and
derived outputs, and that `exec` of the row's instruction answers the next state the rule gives, from every state. The
entries are the spec's decisions D1 to D3 (log entry 2); how a query shows on the ports is log entries 3 and 4. -/

/-- R120 to R122: LDA, LDX, LDY. -/
def Obligations.LoadsRunAsTheirRules : Prop := ∀ ru ∈ [ruleLDA, ruleLDX, ruleLDY], RuleHolds ru

/-- R123 to R125: STA, STX, STY. -/
def Obligations.StoresRunAsTheirRules : Prop := ∀ ru ∈ [ruleSTA, ruleSTX, ruleSTY], RuleHolds ru

/-- R126 to R131: TAX, TAY, TSX, TXA, TXS, TYA. -/
def Obligations.TransfersRunAsTheirRules : Prop :=
  ∀ ru ∈ [ruleTAX, ruleTAY, ruleTSX, ruleTXA, ruleTXS, ruleTYA], RuleHolds ru

/-- R132 to R136: ADC, SBC, AND, ORA, EOR. -/
def Obligations.ArithmeticAndLogicRunAsTheirRules : Prop :=
  ∀ ru ∈ [ruleADC, ruleSBC, ruleAND, ruleORA, ruleEOR], RuleHolds ru

/-- R137 to R140: CMP, CPX, CPY, BIT. -/
def Obligations.ComparesRunAsTheirRules : Prop := ∀ ru ∈ [ruleCMP, ruleCPX, ruleCPY, ruleBIT], RuleHolds ru

/-- R141 to R146: INC, INX, INY, DEC, DEX, DEY. -/
def Obligations.IncrementsAndDecrementsRunAsTheirRules : Prop :=
  ∀ ru ∈ [ruleINC, ruleINX, ruleINY, ruleDEC, ruleDEX, ruleDEY], RuleHolds ru

/-- R147 to R150: ASL, LSR, ROL, ROR. -/
def Obligations.ShiftsRunAsTheirRules : Prop := ∀ ru ∈ [ruleASL, ruleLSR, ruleROL, ruleROR], RuleHolds ru

/-- R151 to R158: the eight branches. -/
def Obligations.BranchesRunAsTheirRules : Prop :=
  ∀ ru ∈ [ruleBCC, ruleBCS, ruleBEQ, ruleBMI, ruleBNE, ruleBPL, ruleBVC, ruleBVS], RuleHolds ru

/-- R159 to R163: JMP, JSR, RTS, RTI, BRK; 0x6C is the only `Indirect` entry, and no official opcode costs more than
`BRK`'s 7. -/
def Obligations.JumpsReturnsAndBreakRunAsTheirRules : Prop :=
  (∀ ru ∈ [ruleJMP, ruleJSR, ruleRTS, ruleRTI, ruleBRK], RuleHolds ru) ∧
  (∀ b : Byte, (table b).mode = .Indirect ↔ b = 0x6C) ∧
  (∀ b : Byte, officialOpcode b = true → (table b).baseCycles ≤ 7)

/-- R164 to R167: PHA, PHP, PLA, PLP. -/
def Obligations.StackInstructionsRunAsTheirRules : Prop :=
  ∀ ru ∈ [rulePHA, rulePHP, rulePLA, rulePLP], RuleHolds ru

/-- R168 to R174: CLC, CLD, CLI, CLV, SEC, SED, SEI. -/
def Obligations.FlagInstructionsRunAsTheirRules : Prop :=
  ∀ ru ∈ [ruleCLC, ruleCLD, ruleCLI, ruleCLV, ruleSEC, ruleSED, ruleSEI], RuleHolds ru

/-- R175: NOP, its 28 bytes; the decodes of its seven `Implied` bytes equal the sentinel in every field but `opcode`. -/
def Obligations.NoOperationsRunAsTheirRule : Prop :=
  RuleHolds ruleNOP ∧
  ∀ b : Byte, (table b).mnemonic = .NOP → (table b).mode = .Implied →
    { asInstruction b .STANDARD with opcode := Config.sentinelOpcode b } = sentinelOf b

/-- R176 to R179, R185, R189: the undocumented immediates ALR, ANC, ANE, ARR, LXA, SBX. -/
def Obligations.UndocumentedImmediatesRunAsTheirRules : Prop :=
  ∀ ru ∈ [ruleALR, ruleANC, ruleANE, ruleARR, ruleLXA, ruleSBX], RuleHolds ru

/-- R180, R181, R186, R187, R193, R194: the undocumented read-modify-writes DCP, ISC, RLA, RRA, SLO, SRE; 8 is the largest
base cost of the table, and only their `IndirectX` and `IndirectY` entries have it. -/
def Obligations.UndocumentedReadModifyWritesRunAsTheirRules : Prop :=
  (∀ ru ∈ [ruleDCP, ruleISC, ruleRLA, ruleRRA, ruleSLO, ruleSRE], RuleHolds ru) ∧
  (∀ b : Byte, (table b).baseCycles ≤ 8) ∧
  (∀ b : Byte, (table b).baseCycles = 8 ↔
    ((table b).mnemonic ∈ [Mnemonic.DCP, .ISC, .RLA, .RRA, .SLO, .SRE] ∧
      (table b).mode ∈ [AddressingMode.IndirectX, .IndirectY]))

/-- R182: JAM, its 12 bytes; the block halts nothing: whatever it answered for a `JAM` byte, the next query on any byte
runs and answers what it would have answered without it. -/
def Obligations.JamRunsAsItsRuleAndHaltsNothing : Prop :=
  RuleHolds ruleJAM ∧
  ∀ (r : RuleRow) (s t : State) (b : Byte), r ∈ ruleJAM.rows → exec r.instr s = .next t →
    ∃ u v, step (t.presentOpcode b) = .next u ∧ step (s.presentOpcode b) = .next v ∧
      u.descriptor = v.descriptor ∧ u.penResult = v.penResult

/-- R183, R184: LAS and LAX. -/
def Obligations.UndocumentedLoadsRunAsTheirRules : Prop := ∀ ru ∈ [ruleLAS, ruleLAX], RuleHolds ru

/-- R188, R190 to R192, R195: the undocumented stores SAX, SHA, SHX, SHY, TAS. -/
def Obligations.UndocumentedStoresRunAsTheirRules : Prop :=
  ∀ ru ∈ [ruleSAX, ruleSHA, ruleSHX, ruleSHY, ruleTAS], RuleHolds ru

/-! ## The machine -/

/-- A step on an opcode query is `exec` of the instruction that the byte on `dec_opcode` decodes to, at that very state and
with nothing added around it; a step on a PEN query is that query (log entries 3 and 4). -/
def Obligations.StepRunsTheDecodedInstruction : Prop :=
  ∀ s : State,
    (s.query ≠ .cost → ∀ i rest, decode [s.decOpcode] = .ok (i, rest) → step s = exec i s) ∧
    (s.query = .cost → step s = queryCost s)

/-- Presenting a table word makes the next step run its instruction, from every state: it puts the word's first byte on
`dec_opcode`, asks for an opcode query, and changes no other port (log entry 7). -/
def Obligations.PresentedWordRunsNext : Prop :=
  ∀ (s : State) (i : Instr) (operands : Nat),
    let w := (encodeByte i).toNat + 256 * operands
    decodeTableWord 24 w = some i ∧
    step (s.withFetchWord 24 w) = exec i (s.withFetchWord 24 w) ∧
    s.withFetchWord 24 w =
      { s with decOpcode := encodeByte i, query := if s.query = .cost then .decodeAndCost else s.query }

/-- R200 and R202 beside R64: no step faults; every opcode query goes on; a PEN query stops exactly on bit patterns that are
not enumeration values, by the name of the first of them (log entry 11). -/
def Obligations.OnlyNonValuesAtPenAreRefused : Prop :=
  ∀ s : State,
    (∀ f, step s ≠ .fault f) ∧
    (s.query ≠ .cost → Continues s) ∧
    (s.query = .cost → (Continues s ↔ PenInputsAreValues s)) ∧
    (s.query = .cost → 76 ≤ s.penMnemonic.toNat → step s = .refused (.penMnemonicNotAValue s.penMnemonic)) ∧
    (s.query = .cost → s.penMnemonic.toNat < 76 → 13 ≤ s.penMode.toNat →
      step s = .refused (.penModeNotAValue s.penMode))

/-- R100 and R108 at the ports: a `cycles_with_penalty` query on any mnemonic, mode and cycle count, whether or not unit DEC
can produce it, drives `cycles + penalty` on `pen_result`; unit DEC's outputs follow its inputs, and no input changes (log
entry 10). -/
def Obligations.AnyPresentedDescriptorIsCosted : Prop :=
  ∀ (s : State) (m : Mnemonic) (a : AddressingMode),
    s.query = .cost → s.penMnemonic = m.code → s.penMode = a.code →
    let d := asInstruction s.decOpcode s.decRequestedSet
    step s = .next { s with
      insOpcode   := d.opcode
      insMnemonic := d.mnemonic
      insMode     := d.mode
      insLength   := d.length
      insCycles   := d.cycles
      insSet      := d.instructionSet
      penResult   := s.penCycles + penaltyOf (penaltyClass m a) s.penPageRelation }

/-- The state after reset: the outputs are the functions of the inputs at that moment (R221). That the input ports stand at
their zero codes is the model's choice (log entry 5). -/
def Obligations.ResetPortsAreSettled : Prop :=
  Settled State.reset ∧
  State.reset.decOpcode = 0 ∧ State.reset.decRequestedSet.code = 0 ∧ State.reset.penMnemonic = 0 ∧
  State.reset.penMode = 0 ∧ State.reset.penCycles = 0 ∧ State.reset.penPageRelation.code = 0 ∧
  State.reset.descriptor = ⟨0, .BRK, .Implied, 1, 7, .STANDARD⟩ ∧ State.reset.penResult = 0

/-- What holds of the ports of a host that has driven only enumeration values into PEN is kept by every step: both
units' outputs are the functions of their inputs and of `TABLE`, PEN's inputs are in its domain, and DEC's outputs are a
descriptor with the invariants of R63 (whose cycle values are D1 to D3, log entry 2). And no such step stops. -/
def Obligations.EveryStepKeepsOutputsSettled : Prop :=
  (∀ s t : State, PortInvariant s → step s = .next t → PortInvariant t) ∧ (∀ s : State, PortInvariant s → Continues s)

/-- R18, R19 and R230: whatever the query, and whatever stood on the outputs before, in the state a step or an instruction
answers with both units' outputs are the functions of what stands on their inputs. Where PEN's inputs are no
enumeration values, which only a decode gets past, its function is a free value (log entry 18). That a query is a step, and
that `exec` puts the instruction's byte on `dec_opcode` (the last clause), is the model's choice (log entry 3). -/
def Obligations.EveryQuerySettlesItsUnit : Prop :=
  (∀ s t : State, step s = .next t → Settled t) ∧
  (∀ (i : Instr) (s t : State), exec i s = .next t → Settled t ∧ t.decOpcode = encodeByte i)

/-- The frame of every instruction, beside the outputs it drives: its opcode byte is put on `dec_opcode`;
`dec_requested_set`, `pen_page_relation` and the query stay; PEN's three descriptor inputs stay where the host does not feed
PEN, and are DEC's outputs where it does. That running an instruction drives its byte, and the feeding of PEN, are the
model's form of a query (log entries 3 and 4). -/
def Obligations.EveryInstructionKeepsItsFrame : Prop :=
  ∀ (i : Instr) (s t : State), exec i s = .next t →
    t.decOpcode = encodeByte i ∧ HostInputsKept s t ∧
    (s.query ≠ .decodeAndCost → PenInputsKept s t) ∧
    (s.query = .decodeAndCost →
      t.penMnemonic = t.insMnemonic.code ∧ t.penMode = t.insMode.code ∧ t.penCycles = t.insCycles)

/-- R11 and R224: what a step does depends on the inputs and on nothing that earlier queries left on the outputs: not the
answer, not whether it is refused, not the state after it. -/
def Obligations.AnswersDependOnInputsOnly : Prop :=
  ∀ s t : State, SameInputs s t → step s = step t ∧ ∀ i : Instr, exec i s = exec i t

/-- R11 and R29: asking again gives the same answer and changes nothing. -/
def Obligations.RepeatedQueryChangesNothing : Prop :=
  ∀ s t : State, step s = .next t → step t = .next t

/-- R15: the requested set is not latched: after any query, the answer for a byte under a set is `as_instruction` of that
byte and that set, whichever set was requested before. -/
def Obligations.RequestedSetIsPerQuery : Prop :=
  ∀ (s t : State) (b : Byte) (x : InstructionSet), step s = .next t →
    ∃ u, step { t.presentOpcode b with decRequestedSet := x } = .next u ∧ u.descriptor = asInstruction b x

/-! ## The neighbours and the reference host (outside the block, R4(c) and D22) -/

/-- R38 to R40: the two constructors agree, the encoding is most significant byte first, and addresses are strictly and
totally ordered by `raw`; and the glossary's inference that two addresses are on one page when their bits [15:8] agree
(log entry 16). -/
def Obligations.AddressBytesAndOrder : Prop :=
  (∀ raw : BitVec 16, Address.fromBytes (Address.mk raw).bytes = ⟨raw⟩) ∧
  (∀ p : Byte × Byte, (Address.fromBytes p).bytes = p) ∧
  (∀ a : Address, a.raw.toNat = 256 * a.bytes.1.toNat + a.bytes.2.toNat) ∧
  (∀ a b : Address, a.lt b = true ↔ a.raw.toNat < b.raw.toNat) ∧
  (∀ a b : Address, a ≠ b → (a.lt b = true ↔ ¬ b.lt a = true)) ∧
  (∀ a b : Address, pageRelation a b = .SAME ↔ a.raw.toNat / 256 = b.raw.toNat / 256)

/-- R41 to R43: construction normalises and ignores the order of the endpoints; size, membership and overlap of closed
intervals. -/
def Obligations.AddressRangesAreClosedIntervals : Prop :=
  (∀ a b : Address, (AddressRange.new a b).normalized = true ∧ AddressRange.new a b = AddressRange.new b a ∧
    ((AddressRange.new a b = ⟨a, b⟩) ∨ (AddressRange.new a b = ⟨b, a⟩))) ∧
  (∀ r : AddressRange, r.normalized = true →
    r.size.toNat = r.till.raw.toNat - r.first.raw.toNat + 1 ∧ 1 ≤ r.size.toNat) ∧
  (∀ (r : AddressRange) (a : Address), r.contains a = true ↔
    r.first.raw.toNat ≤ a.raw.toNat ∧ a.raw.toNat ≤ r.till.raw.toNat) ∧
  (∀ r q : AddressRange, r.normalized = true → q.normalized = true →
    (r.overlaps q = true ↔ ∃ a, r.contains a = true ∧ q.contains a = true))

/-- R44 to R46: devices of two types stand in one store; a copy of a handle is a handle to the same implementation, so a
write through the copy, which gives the device's own status, is what a read through the original then reads; it reaches
no other device; and the implementation outlives one of its two handles and not the other. -/
def Obligations.DeviceCopiesShareTheirState : Prop :=
  ∀ {σ τ : Type} (ds : Devices) (impl : DeviceImpl σ) (init : σ) (second : DeviceImpl τ) (start : τ)
    (x y : Address) (v : Byte),
    let w := ds.wrap impl init
    let o := w.2.wrap second start
    (o.2.read w.1 x y).map Prod.fst = some (impl.read init x y).1 ∧
    ∃ d' ds1 ds2 ds3 ds4,
      o.2.copy w.1 = some (d', ds1) ∧
      ds1.write d' x y v = some ((impl.write init x y v).1, ds2) ∧
      ds2.drop d' = some ds3 ∧
      (ds3.read w.1 x y).map Prod.fst = some (impl.read (impl.write init x y v).2 x y).1 ∧
      ds3.drop w.1 = some ds4 ∧ ds4.read w.1 x y = none ∧
      (ds4.read o.1 x y).map Prod.fst = some (second.read start x y).1 ∧
      ∀ e : Device, e.id < ds.length → ds4.cell e = ds.cell e

/-- The reference host of D22 comes to the end of its bytes or refuses: a turn moves on by the descriptor's length, which is
1 to 3, and one turn a byte is enough (log entry 17). -/
def Obligations.ReferenceHostReachesTheEnd : Prop :=
  (∀ n p hints b w w', walkTurn n p hints b w = some w' →
    w.pos < w'.pos ∧ w'.pos ≤ w.pos + 3 ∧ w'.pos ≤ n ∧ w'.trace.length = w.trace.length + 1) ∧
  (∀ bytes p hints w, walk bytes p hints = some w → w.pos = bytes.length)
end

