-- ==== Sys2Proof/Tests/Slice0.lean ====
section
/-! SUPPORT. The model's own tests. Every expected value is copied from the spec, whose place each comment names. The last
section holds, for every obligation with hypotheses, a concrete input that meets them. -/

namespace Sys2Proof.Tests

open Sys2Proof.Machine Sys2Proof.Rules

/-- A small state: reset, with an opcode query on `b` under `x` and a page relation. -/
def asked (b : Byte) (x : InstructionSet) (r : PageBoundary) : State :=
  { State.reset with decOpcode := b, decRequestedSet := x, penPageRelation := r }

/-- A small state: reset, with a PEN query on what the host presents. -/
def presented (m : MnemonicCode) (a : ModeCode) (c : Cycles) (r : PageBoundary) : State :=
  { State.reset with penMnemonic := m, penMode := a, penCycles := c, penPageRelation := r, query := .cost }

/-- The descriptor and the cost a step answers with. -/
def answer : Host.Outcome State Fault Refusal → Option (Descriptor × Cycles)
  | .next t    => some (t.descriptor, t.penResult)
  | .fault _   => none
  | .refused _ => none

/-- The same without the `opcode` field, which the sentinel leaves open (R93). -/
def answerButOpcode (o : Host.Outcome State Fault Refusal) :
    Option (Mnemonic × AddressingMode × Length × Cycles × InstructionSet × Cycles) :=
  (answer o).map fun p => (p.1.mnemonic, p.1.mode, p.1.length, p.1.cycles, p.1.instructionSet, p.2)

/-! ## WellFormed: one ill-formed term for each check -/

theorem test_wf_missing_operand_refused : (InstrBytes.mk .ldaAD [0x34]).wellFormed = false := by decide
theorem test_wf_extra_operand_refused : (InstrBytes.mk .clc18 [0x00]).wellFormed = false := by decide
theorem test_wf_operands_accepted : (InstrBytes.mk .ldaAD [0x34, 0x12]).wellFormed = true := by decide
theorem test_wf_entry_base_1_refused : (Entry.mk .LDA .Immediate 1).wellFormed = false := by decide
theorem test_wf_entry_base_9_refused : (Entry.mk .SLO .IndirectX 9).wellFormed = false := by decide
theorem test_wf_entry_base_0_not_jam_refused : (Entry.mk .NOP .Implied 0).wellFormed = false := by decide
theorem test_wf_entry_jam_base_2_refused : (Entry.mk .JAM .Implied 2).wellFormed = false := by decide
theorem test_wf_descriptor_length_refused :
    (Descriptor.mk 0xA9 .LDA .Immediate 3 2 .STANDARD).wellFormed = false := by decide
theorem test_wf_descriptor_set_refused :
    (Descriptor.mk 0xA9 .LDA .Immediate 2 2 .NMOS).wellFormed = false := by decide
theorem test_wf_descriptor_cycles_1_refused :
    (Descriptor.mk 0xA9 .LDA .Immediate 2 1 .STANDARD).wellFormed = false := by decide
theorem test_wf_descriptor_cycles_9_refused :
    (Descriptor.mk 0xA9 .LDA .Immediate 2 9 .STANDARD).wellFormed = false := by decide
theorem test_wf_descriptor_zero_cost_refused :
    (Descriptor.mk 0xEA .NOP .Implied 1 0 .STANDARD).wellFormed = false := by decide

/-! ## Decoding: words written out from R58, by row (high nibble) and column (low nibble) -/

-- 43_: row A column 9, row 9 column 6, row 9 column A.
theorem test_decode_load_store_transfer :
    [0b10101001, 0b10010110, 0b10011010].map (decodeTableWord 8) =
      [some .ldaA9, some .stx96, some .txs9A] := by decide
-- 44_: row 7 column D, row E column B, row C column C, row C column A, row 6 column A.
theorem test_decode_arith_logic_shift :
    [0b01111101, 0b11101011, 0b11001100, 0b11001010, 0b01101010].map (decodeTableWord 8) =
      [some .adc7D, some .sbcEB, some .cpyCC, some .dexCA, some .ror6A] := by decide
-- 45_: row 9 column 0, row 6 column C, row 0 column 0.
theorem test_decode_control_flow :
    [0b10010000, 0b01101100, 0b00000000].map (decodeTableWord 8) =
      [some .bcc90, some .jmp6C, some .brk00] := by decide
-- 46_: row 2 column 8, row F column 8, row 1 column C.
theorem test_decode_stack_flags_nop :
    [0b00101000, 0b11111000, 0b00011100].map (decodeTableWord 8) =
      [some .plp28, some .sedF8, some .nop1C] := by decide
-- 47_: row B column B, row F column 2, row F column F, row 8 column B.
theorem test_decode_undocumented :
    [0b10111011, 0b11110010, 0b11111111, 0b10001011].map (decodeTableWord 8) =
      [some .lasBB, some .jamF2, some .iscFF, some .ane8B] := by decide
-- R50: the opcode is the first byte; operand bytes follow and are not the block's.
theorem test_decode_operand_bytes_ignored :
    [0x001234AD, 0x0000AD].map (decodeTableWord 24) = [some .ldaAD, some .ldaAD] := by decide
-- 95_ program 4: the third byte of LDA Absolute is missing.
theorem test_decode_short_string_rejected :
    decodeInstrBytes [0xAD, 0x00] = .error (.operandBytesMissing .ldaAD 2 1) := rfl
-- 95_ program 1, position 2.
theorem test_decode_instruction_bytes :
    decodeInstrBytes [0xBD, 0xF0, 0x10, 0x9D] = .ok (⟨.ldaBD, [0xF0, 0x10]⟩, [0x9D]) := rfl
theorem test_encode_instruction_bytes : encode ⟨.ldaBD, [0xF0, 0x10]⟩ = [0xBD, 0xF0, 0x10] := by decide
-- R70, the first and the last word of the image, and the word of 0xA9 (R120).
theorem test_rom_words : [romImage 0x00, romImage 0xFF, romImage 0xA9] = [0x0A57, 0x3D17, 0x1D42] := by decide

/-! ## One step: as_instruction and cycles_with_penalty together. 95_ sections 3.1, 3.2 and 4 -/

theorem test_step_lda_immediate :
    answer (step (asked 0xA9 .STANDARD .CROSSED)) = some (⟨0xA9, .LDA, .Immediate, 2, 2, .STANDARD⟩, 2) := by decide
theorem test_step_official_under_nmos_is_sentinel :
    answerButOpcode (step (asked 0xA9 .NMOS .CROSSED)) = some (.NOP, .Implied, 1, 2, .STANDARD, 2) := by decide
theorem test_step_lda_indirect_y_crossed :
    answer (step (asked 0xB1 .STANDARD .CROSSED)) = some (⟨0xB1, .LDA, .IndirectY, 2, 5, .STANDARD⟩, 6) := by decide
theorem test_step_lda_indirect_x_crossed :
    answer (step (asked 0xA1 .STANDARD .CROSSED)) = some (⟨0xA1, .LDA, .IndirectX, 2, 6, .STANDARD⟩, 6) := by decide
theorem test_step_ldx_zero_page_y :
    answer (step (asked 0xB6 .STANDARD .CROSSED)) = some (⟨0xB6, .LDX, .ZeroPageY, 2, 4, .STANDARD⟩, 4) := by decide
theorem test_step_sta_absolute_x_crossed :
    answer (step (asked 0x9D .STANDARD .CROSSED)) = some (⟨0x9D, .STA, .AbsoluteX, 3, 5, .STANDARD⟩, 5) := by decide
-- R98, R110 and the source's S12.
theorem test_step_adc_absolute_x_same :
    answer (step (asked 0x7D .STANDARD .SAME)) = some (⟨0x7D, .ADC, .AbsoluteX, 3, 4, .STANDARD⟩, 4) := by decide
theorem test_step_adc_absolute_x_crossed :
    answer (step (asked 0x7D .STANDARD .CROSSED)) = some (⟨0x7D, .ADC, .AbsoluteX, 3, 4, .STANDARD⟩, 5) := by decide
-- The source's S13.
theorem test_step_adc_immediate_crossed :
    answer (step (asked 0x69 .STANDARD .CROSSED)) = some (⟨0x69, .ADC, .Immediate, 2, 2, .STANDARD⟩, 2) := by decide
theorem test_step_sbc_undocumented_byte :
    answer (step (asked 0xEB .STANDARD .CROSSED)) = some (⟨0xEB, .SBC, .Immediate, 2, 2, .STANDARD⟩, 2) := by decide
theorem test_step_asl_accumulator :
    answer (step (asked 0x0A .STANDARD .SAME)) = some (⟨0x0A, .ASL, .Accumulator, 1, 2, .STANDARD⟩, 2) := by decide
theorem test_step_asl_absolute_x_crossed :
    answer (step (asked 0x1E .STANDARD .CROSSED)) = some (⟨0x1E, .ASL, .AbsoluteX, 3, 7, .STANDARD⟩, 7) := by decide
-- The source's S11.
theorem test_step_bcc_same :
    answer (step (asked 0x90 .STANDARD .SAME)) = some (⟨0x90, .BCC, .Relative, 2, 2, .STANDARD⟩, 3) := by decide
theorem test_step_bcc_crossed :
    answer (step (asked 0x90 .STANDARD .CROSSED)) = some (⟨0x90, .BCC, .Relative, 2, 2, .STANDARD⟩, 4) := by decide
theorem test_step_jmp_indirect :
    answer (step (asked 0x6C .STANDARD .CROSSED)) = some (⟨0x6C, .JMP, .Indirect, 3, 5, .STANDARD⟩, 5) := by decide
theorem test_step_brk :
    answer (step (asked 0x00 .STANDARD .CROSSED)) = some (⟨0x00, .BRK, .Implied, 1, 7, .STANDARD⟩, 7) := by decide
theorem test_step_pla :
    answer (step (asked 0x68 .STANDARD .SAME)) = some (⟨0x68, .PLA, .Implied, 1, 4, .STANDARD⟩, 4) := by decide
theorem test_step_sed :
    answer (step (asked 0xF8 .STANDARD .SAME)) = some (⟨0xF8, .SED, .Implied, 1, 2, .STANDARD⟩, 2) := by decide
-- U5: no penalty although the mode is indexed.
theorem test_step_nop_absolute_x_crossed :
    answer (step (asked 0x1C .STANDARD .CROSSED)) = some (⟨0x1C, .NOP, .AbsoluteX, 3, 4, .STANDARD⟩, 4) := by decide
theorem test_step_nop_absolute_x_under_nmos :
    answerButOpcode (step (asked 0x1C .NMOS .CROSSED)) = some (.NOP, .Implied, 1, 2, .STANDARD, 2) := by decide
theorem test_step_lax_zero_page :
    answer (step (asked 0xA7 .NMOS .CROSSED)) = some (⟨0xA7, .LAX, .ZeroPage, 2, 3, .NMOS⟩, 3) := by decide
-- R226: the sentinel's length is 1 although the real length is 2.
theorem test_step_lax_under_standard_is_sentinel :
    answerButOpcode (step (asked 0xA7 .STANDARD .CROSSED)) = some (.NOP, .Implied, 1, 2, .STANDARD, 2) := by decide
theorem test_step_las_crossed :
    answer (step (asked 0xBB .NMOS .CROSSED)) = some (⟨0xBB, .LAS, .AbsoluteY, 3, 4, .NMOS⟩, 5) := by decide
theorem test_step_jam :
    answer (step (asked 0x02 .NMOS .CROSSED)) = some (⟨0x02, .JAM, .Implied, 1, 0, .NMOS⟩, 0) := by decide
theorem test_step_jam_under_standard_is_sentinel :
    answerButOpcode (step (asked 0x02 .STANDARD .SAME)) = some (.NOP, .Implied, 1, 2, .STANDARD, 2) := by decide
theorem test_step_isc_last_index :
    answer (step (asked 0xFF .NMOS .CROSSED)) = some (⟨0xFF, .ISC, .AbsoluteX, 3, 7, .NMOS⟩, 7) := by decide
theorem test_step_sha_indirect_y_crossed :
    answer (step (asked 0x93 .NMOS .CROSSED)) = some (⟨0x93, .SHA, .IndirectY, 2, 6, .NMOS⟩, 6) := by decide
-- R19, R20, R230: beside a query of unit DEC alone, PEN's output follows what the host drives, not what stood there
-- (95_ section 4.3: LDA, AbsoluteX, 100, crossed).
theorem test_step_decode_settles_pen :
    answer (step { asked 0xB1 .STANDARD .CROSSED with
      query := .decode, penMnemonic := 29, penMode := 1, penCycles := 100, penResult := 77 }) =
      some (⟨0xB1, .LDA, .IndirectY, 2, 5, .STANDARD⟩, 101) := by decide
-- R90: a decode runs whatever stands at PEN's inputs, here bit patterns that are no values (R64).
theorem test_step_decode_beside_non_values :
    (answer (step { asked 0xB1 .STANDARD .SAME with query := .decode, penMnemonic := 127, penMode := 15 })).map
      Prod.fst = some ⟨0xB1, .LDA, .IndirectY, 2, 5, .STANDARD⟩ := by decide
-- R18, R230: beside a query of unit PEN alone, DEC's outputs follow its inputs.
theorem test_step_cost_settles_dec :
    answer (step { presented 29 1 100 .CROSSED with decOpcode := 0xA9 }) =
      some (⟨0xA9, .LDA, .Immediate, 2, 2, .STANDARD⟩, 101) := by decide

/-! ## One step: PEN alone, on hand-built descriptors. 95_ section 4.3 and R108; codes of R52 and R53 -/

-- LDA (29), AbsoluteX (1), 100.
theorem test_cost_lda_absolute_x_100 :
    (answer (step (presented 29 1 100 .CROSSED))).map Prod.snd = some 101 := by decide
-- BEQ (5), Implied (5), 7: the branch case looks at the mnemonic only.
theorem test_cost_beq_implied : (answer (step (presented 5 5 7 .SAME))).map Prod.snd = some 8 := by decide
-- BCC (3), AbsoluteX (1), 4: the branch case is tested first.
theorem test_cost_bcc_absolute_x : (answer (step (presented 3 1 4 .CROSSED))).map Prod.snd = some 6 := by decide
-- LAX (64), AbsoluteX (1), 4: a pair the table does not contain.
theorem test_cost_lax_absolute_x : (answer (step (presented 64 1 4 .CROSSED))).map Prod.snd = some 5 := by decide
-- BPL (9), Relative (9), 2^64 - 2: the sum wraps.
theorem test_cost_bpl_wraps :
    (answer (step (presented 9 9 0xFFFFFFFFFFFFFFFE .CROSSED))).map Prod.snd = some 0 := by decide
-- R64: codes 76 and 13 are no values; 75 (TAS) and 12 (ZeroPageY) are the last ones.
theorem test_cost_mnemonic_76_refused :
    step (presented 76 13 0 .SAME) = .refused (.penMnemonicNotAValue 76) := rfl
theorem test_cost_mode_13_refused : step (presented 75 13 0 .SAME) = .refused (.penModeNotAValue 13) := rfl
theorem test_cost_last_codes : (answer (step (presented 75 12 5 .CROSSED))).map Prod.snd = some 5 := by decide

/-! ## The neighbours. 95_ section 1, S1 to S7, and R73 -/

theorem test_address_bytes : (Address.mk 0x1234).bytes = (0x12, 0x34) := by decide
theorem test_address_from_bytes : Address.fromBytes (0xFF, 0x00) = ⟨0xFF00⟩ := by decide
theorem test_address_order : (Address.mk 0x00FF).lt ⟨0x0100⟩ = true := by decide
theorem test_range_normalized : AddressRange.new ⟨0x20⟩ ⟨0x10⟩ = ⟨⟨0x10⟩, ⟨0x20⟩⟩ := by decide
theorem test_range_sizes :
    [(AddressRange.new ⟨0x10⟩ ⟨0x20⟩).size, (AddressRange.new ⟨7⟩ ⟨7⟩).size, (AddressRange.new ⟨0⟩ ⟨0xFFFF⟩).size] =
      [17, 1, 65536] := by decide
theorem test_range_edge_touching_overlaps :
    (AddressRange.new ⟨0x10⟩ ⟨0x20⟩).overlaps (.new ⟨0x20⟩ ⟨0x30⟩) = true := by decide
theorem test_range_one_past_the_edge_is_disjoint :
    (AddressRange.new ⟨0x10⟩ ⟨0x20⟩).overlaps (.new ⟨0x21⟩ ⟨0x30⟩) = false := by decide
theorem test_address_rendered : (Address.mk 0x00A7).render = "ADDR(0x00A7)" := by decide

/-- S7's mock: a device of one byte, which a write changes. -/
def oneByte : DeviceImpl Byte where
  read  := fun v _ _ => (v, v)
  write := fun _ _ _ v => (.WRITTEN, v)

/-- S7: the mock reads 0x42. -/
theorem test_device_reads :
    let w := Devices.wrap [] oneByte 0x42
    (w.2.read w.1 ⟨0⟩ ⟨0⟩).map Prod.fst = some 0x42 := by decide

/-- A read-only device without state, of another type than `oneByte`. -/
def readOnly : DeviceImpl Unit where
  read  := fun u _ _ => (0x60, u)
  write := fun u _ _ _ => (.FAILED, u)

/-- R45, R46: devices of two types in one store; a write to read-only memory fails and leaves the other alone. -/
theorem test_device_types_are_erased :
    let w := Devices.wrap [] oneByte 0x42
    let o := w.2.wrap readOnly ()
    (o.2.write o.1 ⟨0⟩ ⟨0⟩ 0x99).map Prod.fst = some .FAILED ∧
    (o.2.read o.1 ⟨0⟩ ⟨0⟩).map Prod.fst = some 0x60 ∧ (o.2.read w.1 ⟨0⟩ ⟨0⟩).map Prod.fst = some 0x42 := by decide

/-! ## The reference host: single turns of 95_ section 5 -/

-- Program 1, position 2: LDA AbsoluteX crossed, 5 cycles on top of 2.
theorem test_walk_turn_crossed_load :
    (walkTurn 14 .STANDARD [(2, .CROSSED)] 0xBD ⟨2, 2, []⟩).map (fun w => (w.pos, w.total)) = some (5, 7) := by decide
-- Program 3, position 9: BCC not taken, base cost.
theorem test_walk_turn_branch_not_taken :
    (walkTurn 14 .NMOS_FIRST [(11, .CROSSED)] 0x90 ⟨9, 17, []⟩).map (fun w => (w.pos, w.total)) = some (11, 19) := by
  decide
-- Program 4, position 1: an operand byte is missing.
theorem test_walk_turn_refuses : walkTurn 3 .STANDARD [] 0xAD ⟨1, 2, []⟩ = none := by decide

/-! ## Witnesses: inputs that meet the hypotheses of each obligation that has some -/

theorem witness_InstructionBytesRoundTrip :
    (InstrBytes.mk .clc18 []).wellFormed = true ∧ (InstrBytes.mk .ldaA9 [0xFF]).wellFormed = true ∧
    (InstrBytes.mk .jmp6C [0xFC, 0xFF]).wellFormed = true := by decide
theorem witness_DecodedBytesReencode :
    decodeInstrBytes [0x6C, 0xFC, 0xFF, 0xEA] = .ok (⟨.jmp6C, [0xFC, 0xFF]⟩, [0xEA]) := rfl
-- One operand byte too few, and exactly enough.
theorem witness_ByteStringsRejectedOnlyWhenShort :
    [(0x34 : Byte)].length + 1 < (instructionLength (table 0xAD).mode).toNat ∧
    (instructionLength (table 0xAD).mode).toNat ≤ [(0x34 : Byte), 0x12].length + 1 := by decide
theorem witness_EnumerationCodesAreExact :
    Mnemonic.ofCode 75 = some .TAS ∧ Mnemonic.ofCode 76 = none ∧
    AddressingMode.ofCode 12 = some .ZeroPageY ∧ AddressingMode.ofCode 13 = none := by decide
theorem witness_RomWordsAndEntriesAgree :
    entryOfWord 0x1D42 = some ⟨.LDA, .Immediate, 2⟩ ∧ entryOfWord 0x4C42 = none := by decide
theorem witness_InstructionLengthByMode : 13 ≤ (13 : ModeCode).toNat ∧ 13 ≤ (15 : ModeCode).toNat := by decide
theorem witness_ClassifyListsTwentyMnemonics :
    Mnemonic.TAS ∈ undocumentedMnemonics ∧ Mnemonic.NOP ∉ undocumentedMnemonics := by decide
theorem witness_AsInstructionFollowsItsSteps :
    classify (table 0xA7).mnemonic = .NMOS ∧ classify (table 0xA7).mnemonic ≠ .STANDARD := by decide
theorem witness_ImpliedNopsLookLikeTheSentinel :
    decodable 0xEA .STANDARD = true ∧ decodable 0x02 .NMOS = true := by decide
theorem witness_PenaltyByClassAndRelation :
    Mnemonic.BCC ∈ branches ∧
    (Mnemonic.LAS ∉ branches ∧ Mnemonic.LAS ∈ penalisedReads ∧ AddressingMode.AbsoluteY ∈ penalisedModes) ∧
    (Mnemonic.LDA ∉ branches ∧ ¬ (Mnemonic.LDA ∈ penalisedReads ∧ AddressingMode.IndirectX ∈ penalisedModes)) ∧
    (Mnemonic.STA ∉ branches ∧ ¬ (Mnemonic.STA ∈ penalisedReads ∧ AddressingMode.AbsoluteX ∈ penalisedModes)) := by
  decide
theorem witness_BranchPenaltyLooksAtTheMnemonicOnly :
    Mnemonic.BEQ ∈ branches ∧ (table 0x90).mnemonic ∈ branches := by decide
theorem witness_IndexedReadPenaltyNeedsBothConditions :
    Mnemonic.LAX ∈ penalisedReads ∧ AddressingMode.ZeroPageY ∉ penalisedModes ∧
    AddressingMode.AbsoluteX ∈ penalisedModes := by decide
theorem witness_UnlistedMnemonicsCostTheirBase :
    Mnemonic.SBX ∉ branches ∧ Mnemonic.SBX ∉ penalisedReads := by decide
theorem witness_CostOfADecodeIsBounded :
    penaltyClass (asInstruction 0xB1 .STANDARD).mnemonic (asInstruction 0xB1 .STANDARD).mode = .INDEXED_READ ∧
    penaltyClass (asInstruction 0x10 .STANDARD).mnemonic (asInstruction 0x10 .STANDARD).mode = .BRANCH := by decide
theorem witness_CalculatorReadsThreeFields :
    let d : Descriptor := ⟨0x9D, .STA, .AbsoluteX, 3, 5, .STANDARD⟩
    let e : Descriptor := ⟨0x00, .STA, .AbsoluteX, 1, 5, .NMOS⟩
    d.mnemonic = e.mnemonic ∧ d.mode = e.mode ∧ d.cycles = e.cycles ∧ d ≠ e := by decide
theorem witness_CycleSumWrapsModuloTwoTo64 :
    (Descriptor.mk 0 .BPL .Relative 2 0xFFFFFFFFFFFFFFFD .STANDARD).cycles.toNat ≤ 2 ^ 64 - 3 := by decide
theorem witness_PenHardwareRefusesNonValuesOnly :
    76 ≤ (76 : MnemonicCode).toNat ∧ (75 : MnemonicCode).toNat < 76 ∧ 13 ≤ (13 : ModeCode).toNat := by decide

/-- Both hypotheses on the requested set that a rule's rows have, each met by a concrete state. -/
def bothSetsAsked (l : List MnemonicRule) : Prop :=
  ∀ ru ∈ l, (∃ r ∈ ru.rows, (asked r.opcode ru.set .SAME).decRequestedSet = ru.set) ∧
    (∃ r ∈ ru.rows, (asked r.opcode ru.set.other .SAME).decRequestedSet ≠ ru.set)

theorem witness_LoadsRunAsTheirRules : bothSetsAsked [ruleLDA, ruleLDX, ruleLDY] := by
  unfold bothSetsAsked; decide
theorem witness_StoresRunAsTheirRules : bothSetsAsked [ruleSTA, ruleSTX, ruleSTY] := by
  unfold bothSetsAsked; decide
theorem witness_TransfersRunAsTheirRules :
    bothSetsAsked [ruleTAX, ruleTAY, ruleTSX, ruleTXA, ruleTXS, ruleTYA] := by unfold bothSetsAsked; decide
theorem witness_ArithmeticAndLogicRunAsTheirRules :
    bothSetsAsked [ruleADC, ruleSBC, ruleAND, ruleORA, ruleEOR] := by unfold bothSetsAsked; decide
theorem witness_ComparesRunAsTheirRules :
    bothSetsAsked [ruleCMP, ruleCPX, ruleCPY, ruleBIT] := by unfold bothSetsAsked; decide
theorem witness_IncrementsAndDecrementsRunAsTheirRules :
    bothSetsAsked [ruleINC, ruleINX, ruleINY, ruleDEC, ruleDEX, ruleDEY] := by unfold bothSetsAsked; decide
theorem witness_ShiftsRunAsTheirRules :
    bothSetsAsked [ruleASL, ruleLSR, ruleROL, ruleROR] := by unfold bothSetsAsked; decide
theorem witness_BranchesRunAsTheirRules :
    bothSetsAsked [ruleBCC, ruleBCS, ruleBEQ, ruleBMI, ruleBNE, ruleBPL, ruleBVC, ruleBVS] := by
  unfold bothSetsAsked; decide
theorem witness_JumpsReturnsAndBreakRunAsTheirRules :
    bothSetsAsked [ruleJMP, ruleJSR, ruleRTS, ruleRTI, ruleBRK] ∧ officialOpcode 0x00 = true := by
  unfold bothSetsAsked; decide
theorem witness_StackInstructionsRunAsTheirRules :
    bothSetsAsked [rulePHA, rulePHP, rulePLA, rulePLP] := by unfold bothSetsAsked; decide
theorem witness_FlagInstructionsRunAsTheirRules :
    bothSetsAsked [ruleCLC, ruleCLD, ruleCLI, ruleCLV, ruleSEC, ruleSED, ruleSEI] := by
  unfold bothSetsAsked; decide
theorem witness_NoOperationsRunAsTheirRule :
    bothSetsAsked [ruleNOP] ∧ (table 0x1A).mnemonic = .NOP ∧ (table 0x1A).mode = .Implied := by
  unfold bothSetsAsked; decide
theorem witness_UndocumentedImmediatesRunAsTheirRules :
    bothSetsAsked [ruleALR, ruleANC, ruleANE, ruleARR, ruleLXA, ruleSBX] := by unfold bothSetsAsked; decide
theorem witness_UndocumentedReadModifyWritesRunAsTheirRules :
    bothSetsAsked [ruleDCP, ruleISC, ruleRLA, ruleRRA, ruleSLO, ruleSRE] := by unfold bothSetsAsked; decide
theorem witness_JamRunsAsItsRuleAndHaltsNothing :
    bothSetsAsked [ruleJAM] ∧ (∃ r ∈ ruleJAM.rows, r.instr = .jam02) ∧
    (∃ t, exec .jam02 (asked 0x02 .NMOS .SAME) = .next t) :=
  ⟨by unfold bothSetsAsked; decide, ⟨_, .head _, rfl⟩, ⟨_, rfl⟩⟩
theorem witness_UndocumentedLoadsRunAsTheirRules : bothSetsAsked [ruleLAS, ruleLAX] := by
  unfold bothSetsAsked; decide
theorem witness_UndocumentedStoresRunAsTheirRules :
    bothSetsAsked [ruleSAX, ruleSHA, ruleSHX, ruleSHY, ruleTAS] := by unfold bothSetsAsked; decide

theorem witness_StepRunsTheDecodedInstruction :
    (asked 0xA9 .STANDARD .SAME).query ≠ .cost ∧
    decode [(asked 0xA9 .STANDARD .SAME).decOpcode] = .ok (.ldaA9, []) ∧
    (presented 29 1 100 .SAME).query = .cost := ⟨by decide, rfl, rfl⟩
theorem witness_OnlyNonValuesAtPenAreRefused :
    State.reset.query ≠ .cost ∧
    (let s := presented 76 0 0 .SAME; s.query = .cost ∧ 76 ≤ s.penMnemonic.toNat) ∧
    (let s := presented 75 13 0 .SAME; s.query = .cost ∧ s.penMnemonic.toNat < 76 ∧ 13 ≤ s.penMode.toNat) := by
  decide
theorem witness_AnyPresentedDescriptorIsCosted :
    let s := presented 5 5 7 .CROSSED
    s.query = .cost ∧ s.penMnemonic = Mnemonic.BEQ.code ∧ s.penMode = AddressingMode.Implied.code := by decide
-- A fed query and, with values at PEN's inputs, a PEN query.
theorem witness_EveryStepKeepsOutputsSettled :
    PortInvariant State.reset ∧ (∃ t, step State.reset = .next t) ∧
    PortInvariant { State.reset with query := .cost } :=
  ⟨⟨⟨by unfold DecSettled; decide, rfl⟩, ⟨rfl, rfl⟩, by decide⟩, ⟨_, rfl⟩,
    ⟨⟨by unfold DecSettled; decide, rfl⟩, ⟨rfl, rfl⟩, by decide⟩⟩
-- One step of each kind of query.
theorem witness_EveryQuerySettlesItsUnit :
    (∃ t, step State.reset = .next t) ∧
    (∃ t, step { State.reset with query := .decode } = .next t) ∧
    (∃ t, step (presented 29 1 100 .CROSSED) = .next t) ∧ (∃ t, exec .ldaA9 State.reset = .next t) :=
  ⟨⟨_, rfl⟩, ⟨_, rfl⟩, ⟨_, rfl⟩, ⟨_, rfl⟩⟩
theorem witness_EveryInstructionKeepsItsFrame :
    (∃ t, exec .ldaA9 State.reset = .next t) ∧ State.reset.query = .decodeAndCost ∧
    (∃ t, exec .ldaA9 { State.reset with query := .decode } = .next t) := ⟨⟨_, rfl⟩, rfl, ⟨_, rfl⟩⟩
-- Two states that differ in every output and in no input.
theorem witness_AnswersDependOnInputsOnly :
    let s := asked 0xB1 .STANDARD .CROSSED
    let t := { s with insOpcode := 1, insMnemonic := .TAS, insMode := .Indirect, insLength := 3, insCycles := 99,
                      insSet := .NMOS, penResult := 99 }
    SameInputs s t ∧ s ≠ t ∧ (∃ s', step s = .next s') :=
  ⟨⟨rfl, rfl, rfl, rfl, rfl, rfl, rfl⟩, by decide, ⟨_, rfl⟩⟩
theorem witness_RepeatedQueryChangesNothing : ∃ t, step (asked 0xB1 .STANDARD .CROSSED) = .next t := ⟨_, rfl⟩
theorem witness_RequestedSetIsPerQuery : ∃ t, step (asked 0xA7 .STANDARD .SAME) = .next t := ⟨_, rfl⟩
theorem witness_AddressBytesAndOrder : Address.mk 0xFFFF ≠ Address.mk 0 := by decide
theorem witness_AddressRangesAreClosedIntervals :
    (AddressRange.mk ⟨0x10⟩ ⟨0x20⟩).normalized = true ∧ (AddressRange.mk ⟨0xFFFF⟩ ⟨0xFFFF⟩).normalized = true := by
  decide
theorem witness_DeviceCopiesShareTheirState :
    let w := Devices.wrap [] oneByte 0x42
    (Device.mk 0).id < w.2.length := by decide
theorem witness_ReferenceHostReachesTheEnd :
    (∃ w', walkTurn 14 .STANDARD [(2, .CROSSED)] 0xBD ⟨2, 2, []⟩ = some w') ∧
    (∃ w, walk [0xEA] .STANDARD [] = some w) := ⟨⟨_, rfl⟩, ⟨_, rfl⟩⟩

end Sys2Proof.Tests
end

section
/-! The enumeration codes (R52 to R54) read in both directions, and the fields of a ROM word. -/

namespace Sys2Proof.Machine

/-- A value at position `n` of a list whose codes count up from 0 has the code `n`. -/
theorem code_eq_of_getElem? {α : Type} {w k : Nat} {l : List α} {code : α → BitVec w} {c : BitVec w} {x : α}
    (hl : l.map code = (List.range k).map (BitVec.ofNat w)) (h : l[c.toNat]? = some x) : code x = c := by
  have hx : (l.map code)[c.toNat]? = some (code x) := by rw [List.getElem?_map, h, Option.map_some]
  rw [hl, List.getElem?_map, Option.map_eq_some_iff] at hx
  obtain ⟨n, hn, hcode⟩ := hx
  obtain ⟨_, rfl⟩ := List.getElem?_eq_some_iff.mp hn
  rw [← hcode, List.getElem_range, BitVec.ofNat_toNat, BitVec.setWidth_eq]

theorem mnemonicsByCode_map_code :
    mnemonicsByCode.map Mnemonic.code = (List.range 76).map (BitVec.ofNat 7) := by decide

theorem modesByCode_map_code :
    modesByCode.map AddressingMode.code = (List.range 13).map (BitVec.ofNat 4) := by decide

/-- R52: a 7-bit pattern denotes a mnemonic exactly when it is that mnemonic's code. -/
theorem Mnemonic.ofCode_eq_some_iff {c : MnemonicCode} {m : Mnemonic} :
    Mnemonic.ofCode c = some m ↔ m.code = c :=
  ⟨code_eq_of_getElem? mnemonicsByCode_map_code, fun h => h ▸ Mnemonic.ofCode_code m⟩

/-- R53: a 4-bit pattern denotes a mode exactly when it is that mode's code. -/
theorem AddressingMode.ofCode_eq_some_iff {c : ModeCode} {a : AddressingMode} :
    AddressingMode.ofCode c = some a ↔ a.code = c :=
  ⟨code_eq_of_getElem? modesByCode_map_code, fun h => h ▸ AddressingMode.ofCode_code a⟩

/-- R64: the patterns 76 to 127, and no others, denote no mnemonic. -/
theorem Mnemonic.ofCode_eq_none_iff {c : MnemonicCode} : Mnemonic.ofCode c = none ↔ 76 ≤ c.toNat :=
  List.getElem?_eq_none_iff

/-- R64: the patterns 13 to 15, and no others, denote no mode. -/
theorem AddressingMode.ofCode_eq_none_iff {c : ModeCode} : AddressingMode.ofCode c = none ↔ 13 ≤ c.toNat :=
  List.getElem?_eq_none_iff

theorem InstructionSet.code_inj {x y : InstructionSet} : x.code = y.code ↔ x = y :=
  ⟨fun h => by rw [← ofCode_code x, h, ofCode_code], fun h => h ▸ rfl⟩

/-- R84: on codes of mnemonics `classify` is the single comparison. -/
@[simp] theorem classBit_code (m : Mnemonic) : classBit m.code = (classify m).code := by cases m <;> decide

/-- R80: on codes of modes the length logic is `instruction_length`. -/
@[simp] theorem lengthOfModeCode_code (a : AddressingMode) : lengthOfModeCode a.code = instructionLength a := by
  simp [lengthOfModeCode]

/-- R66: the bits of an entry's ROM word, field by field. -/
theorem romWord_getLsbD (e : Entry) (i : Nat) :
    (romWord e).getLsbD i =
      if i < 4 then e.baseCycles.getLsbD i
      else if i < 8 then e.mode.code.getLsbD (i - 4) else e.mnemonic.code.getLsbD (i - 8) := by
  refine BitVec.getLsbD_append.trans ?_
  simp only [BitVec.getLsbD_append, Nat.sub_sub]
  by_cases h4 : i < 4
  · simp [h4]
  · by_cases h8 : i < 8
    · simp [h4, h8, show i - 4 < 4 by omega]
    · simp [h4, h8, show ¬ i - 4 < 4 by omega]

@[simp] theorem wordMnemonic_romWord (e : Entry) : wordMnemonic (romWord e) = e.mnemonic.code := by
  ext i hi; simp [wordMnemonic, romWord_getLsbD, hi, show ¬ 8 + i < 4 by omega]

@[simp] theorem wordMode_romWord (e : Entry) : wordMode (romWord e) = e.mode.code := by
  ext i hi; simp [wordMode, romWord_getLsbD, hi, show 4 + i < 8 by omega]

@[simp] theorem wordBase_romWord (e : Entry) : wordBase (romWord e) = e.baseCycles := by
  ext i hi; simp [wordBase, romWord_getLsbD, hi]

end Sys2Proof.Machine
end

section
/-! What holds of all 256 rows: the ROM image is the table, the entries are well formed, and the opcode byte and its
instruction determine each other. -/

namespace Sys2Proof.Machine

/-- R66, R70: the printed ROM image holds the word of the table's entry. -/
theorem romImage_eq_romWord (b : Byte) : romImage b = romWord (table b) :=
  forall_byte (P := fun b => romImage b = romWord (table b)) (by decide +kernel) b

/-- R63(d) for the stored entries. -/
theorem table_wellFormed (b : Byte) : (table b).wellFormed = true :=
  forall_byte (P := fun b => (table b).wellFormed = true) (by decide +kernel) b

/-- Every opcode byte is the byte of the instruction it decodes to (R50). -/
@[simp] theorem encodeByte_decodeByte (b : Byte) : encodeByte (decodeByte b) = b :=
  forall_byte (P := fun b => encodeByte (decodeByte b) = b) (by decide +kernel) b

/-- Every instruction's opcode byte decodes to it (R50). -/
@[simp] theorem decodeByte_encodeByte (i : Instr) : decodeByte (encodeByte i) = i := by cases i <;> rfl

/-- Widening a base cost keeps its value. -/
@[simp] theorem zext64_toNat (v : BaseCycles) : (zext64 v).toNat = v.toNat := by
  simp only [zext64, BitVec.toNat_setWidth]; omega

/-- A base cost and the same cost widened to 64 bits are the same number. -/
theorem zext64_eq_ofNat_iff {v : BaseCycles} {n : Nat} (hn : n < 16) :
    zext64 v = BitVec.ofNat 64 n ↔ v = BitVec.ofNat 4 n := by
  rw [← BitVec.toNat_inj, ← BitVec.toNat_inj, zext64_toNat, BitVec.toNat_ofNat, BitVec.toNat_ofNat]
  omega

/-- A decoded descriptor inherits its well-formedness from the entry. -/
theorem decodedDescriptor_wellFormed {e : Entry} (b : Byte) (h : e.wellFormed = true) :
    (decodedDescriptor b e).wellFormed = true := by
  simp only [Entry.wellFormed, Bool.and_eq_true, bne_iff_ne, decide_eq_true_eq, beq_iff_eq] at h
  obtain ⟨⟨hne, hle⟩, hjam⟩ := h
  have hone : zext64 e.baseCycles ≠ 1 := mt (zext64_eq_ofNat_iff (by decide)).mp hne
  have hle8 : zext64 e.baseCycles ≤ 8 := by
    rw [BitVec.le_def, zext64_toNat]; exact hle
  have hzero : (zext64 e.baseCycles == 0) = (e.baseCycles == 0) :=
    Bool.eq_iff_iff.mpr (by simpa using zext64_eq_ofNat_iff (v := e.baseCycles) (n := 0) (by decide))
  simp only [Descriptor.wellFormed, decodedDescriptor, hzero, hjam, Bool.and_eq_true, bne_iff_ne,
    beq_self_eq_true, true_and, and_true]
  exact ⟨hone, decide_eq_true hle8⟩

theorem sentinel_wellFormed (b : Byte) : (sentinel b).wellFormed = true := rfl

/-- R63: whatever the byte and the requested set, unit DEC's descriptor is well formed. -/
theorem asInstruction_wellFormed (b : Byte) (x : InstructionSet) : (asInstruction b x).wellFormed = true := by
  by_cases h : classify (table b).mnemonic = x
  · rw [asInstruction_decoded h]; exact decodedDescriptor_wellFormed b (table_wellFormed b)
  · rw [asInstruction_sentinel h]; exact sentinel_wellFormed b

end Sys2Proof.Machine
end

section
/-! What one query does: the answer of unit PEN by its inputs, the ports after an evaluation, and the step. -/

namespace Sys2Proof.Machine

/-- Unit PEN answers exactly on codes of values (R64). -/
theorem penUnit_eq_ok_iff {m : MnemonicCode} {a : ModeCode} {c v : Cycles} {r : PageBoundary} :
    penUnit m a c r = .ok v ↔
      ∃ mn md, Mnemonic.code mn = m ∧ AddressingMode.code md = a ∧ v = penaltyResult mn md c r := by
  constructor
  · intro h
    cases hm : Mnemonic.ofCode m with
    | none => simp [penUnit, hm] at h
    | some mn =>
      cases ha : AddressingMode.ofCode a with
      | none => simp [penUnit, hm, ha] at h
      | some md =>
        simp only [penUnit, hm, ha, Except.ok.injEq] at h
        exact ⟨mn, md, Mnemonic.ofCode_eq_some_iff.mp hm, AddressingMode.ofCode_eq_some_iff.mp ha, h.symm⟩
  · rintro ⟨mn, md, rfl, rfl, rfl⟩
    exact penUnit_code mn md c r

theorem penUnit_not_mnemonic {m : MnemonicCode} {a : ModeCode} {c : Cycles} {r : PageBoundary}
    (h : 76 ≤ m.toNat) : penUnit m a c r = .error (.penMnemonicNotAValue m) := by
  simp [penUnit, Mnemonic.ofCode_eq_none_iff.mpr h]

theorem penUnit_not_mode {m : MnemonicCode} {a : ModeCode} {c : Cycles} {r : PageBoundary}
    (hm : m.toNat < 76) (ha : 13 ≤ a.toNat) : penUnit m a c r = .error (.penModeNotAValue a) := by
  cases hmn : Mnemonic.ofCode m with
  | none => exact absurd (Mnemonic.ofCode_eq_none_iff.mp hmn) (by omega)
  | some mn => simp [penUnit, hmn, AddressingMode.ofCode_eq_none_iff.mpr ha]

/-- An instruction answers one state: the evaluation of its own byte. -/
theorem exec_eq_next (i : Instr) (s : State) : exec i s = .next (evaluated (encodeByte i) s) :=
  exec_eq_evaluate i s

theorem exec_eq_next_iff {i : Instr} {s t : State} : exec i s = .next t ↔ evaluated (encodeByte i) s = t := by
  rw [exec_eq_next, Host.Outcome.next.injEq]

/-- A step on an opcode query runs the instruction on `dec_opcode`. -/
theorem step_eq_exec {s : State} (h : s.query ≠ .cost) : step s = exec (decodeByte s.decOpcode) s := by
  rw [step_opcode h, exec_eq_next]; rfl

/-- A step on an opcode query evaluates the very byte on `dec_opcode`. -/
theorem step_eq_evaluated {s : State} (h : s.query ≠ .cost) : step s = .next (evaluated s.decOpcode s) := by
  rw [step_eq_exec h, exec_eq_next, encodeByte_decodeByte]

/-- After an evaluation both units have settled (R18, R19, R230). -/
theorem evaluated_settled (b : Byte) (s : State) : Settled (evaluated b s) :=
  ⟨by simp [DecSettled], evaluated_penResult b s⟩

/-- Where the host feeds PEN, its descriptor inputs are DEC's outputs (R20). -/
theorem evaluated_penInputs_fed (b : Byte) {s : State} (h : s.query = .decodeAndCost) :
    (evaluated b s).penMnemonic = (evaluated b s).insMnemonic.code ∧
    (evaluated b s).penMode = (evaluated b s).insMode.code ∧
    (evaluated b s).penCycles = (evaluated b s).insCycles := by
  rw [evaluated_fed h]; exact ⟨rfl, rfl, rfl⟩

/-- Where the host does not feed PEN, its descriptor inputs stay. -/
theorem evaluated_penInputsKept (b : Byte) {s : State} (h : s.query ≠ .decodeAndCost) :
    PenInputsKept s (evaluated b s) := by
  rw [evaluated_apart h]; exact ⟨rfl, rfl, rfl⟩

theorem evaluated_hostInputsKept (b : Byte) (s : State) : HostInputsKept s (evaluated b s) :=
  ⟨evaluated_decRequestedSet b s, evaluated_penPageRelation b s, evaluated_query b s⟩

/-- An evaluation leaves enumeration values at PEN where it found them, or where it feeds them itself. -/
theorem evaluated_penInputsAreValues (b : Byte) {s : State} (h : PenInputsAreValues s) :
    PenInputsAreValues (evaluated b s) := by
  by_cases hq : s.query = .decodeAndCost
  · obtain ⟨hm, ha, _⟩ := evaluated_penInputs_fed b hq
    simp [PenInputsAreValues, hm, ha]
  · obtain ⟨hm, ha, _⟩ := evaluated_penInputsKept b hq
    simpa [PenInputsAreValues, hm, ha] using h

/-- What an evaluation answers is a function of the inputs, not of the outputs it found (R11). -/
theorem evaluated_congr (b : Byte) {s t : State} (h : SameInputs s t) : evaluated b s = evaluated b t := by
  obtain ⟨_, hset, hm, ha, hc, hr, hq⟩ := h
  by_cases hs : s.query = .decodeAndCost
  · rw [evaluated_fed hs, evaluated_fed (hq ▸ hs)]
    simp [State.driveDec, State.driveOpcode, *]
  · rw [evaluated_apart hs, evaluated_apart (hq ▸ hs)]
    simp [State.drivePen, State.driveDec, State.driveOpcode, *]

/-- The same of a PEN query, refusals included. -/
theorem queryCost_congr {s t : State} (h : SameInputs s t) : queryCost s = queryCost t := by
  obtain ⟨hop, hset, hm, ha, hc, hr, hq⟩ := h
  have hsettled : s.settleDec.settlePen = t.settleDec.settlePen := by
    simp [State.settlePen, State.settleDec, State.drivePen, State.driveDec, *]
  simp only [queryCost, hsettled, hm, ha, hc, hr]

theorem step_congr {s t : State} (h : SameInputs s t) : step s = step t := by
  have ⟨hop, _, _, _, _, _, hq⟩ := h
  by_cases hs : s.query = .cost
  · rw [step_cost hs, step_cost (hq ▸ hs), queryCost_congr h]
  · rw [step_eq_evaluated hs, step_eq_evaluated (hq ▸ hs), hop, evaluated_congr _ h]

/-- Every step leaves enumeration values at PEN where it found them. -/
theorem step_penInputsAreValues {s t : State} (h : step s = .next t) (hs : PenInputsAreValues s) :
    PenInputsAreValues t := by
  obtain ⟨_, rfl⟩ | ⟨_, _, _, _, _, rfl⟩ := step_cases h
  · exact evaluated_penInputsAreValues _ hs
  · exact hs

/-- With enumeration values at PEN no query is refused (R64, R200). -/
theorem continues_of_penInputsAreValues {s : State} (h : PenInputsAreValues s) : Continues s := by
  by_cases hq : s.query = .cost
  · obtain ⟨hm, ha⟩ := h
    obtain ⟨_, hm⟩ := Option.isSome_iff_exists.mp hm
    obtain ⟨_, ha⟩ := Option.isSome_iff_exists.mp ha
    exact ⟨_, (step_cost hq).trans (queryCost_next hm ha)⟩
  · exact ⟨_, step_eq_evaluated hq⟩

/-- Evaluating the byte again changes nothing. -/
theorem evaluated_idem (b : Byte) (s : State) : evaluated b (evaluated b s) = evaluated b s := by
  by_cases hq : s.query = .decodeAndCost
  · rw [evaluated_fed ((evaluated_query b s).trans hq), evaluated_fed hq]; rfl
  · rw [evaluated_apart ((evaluated_query b s).symm ▸ hq), evaluated_apart hq]; rfl

end Sys2Proof.Machine
end

section
/-! Presenting a table word (R26, R36). -/

namespace Sys2Proof

/-- The opcode byte of a table word of at least 8 bits is its bits 7:0 (R50). -/
theorem opcodeOfWord_eq_ofNat {nbits : Nat} (h : 8 ≤ nbits) (w : Nat) : opcodeOfWord nbits w = BitVec.ofNat 8 w := by
  have hdvd : 2 ^ 8 ∣ 2 ^ nbits := Nat.pow_dvd_pow 2 h
  apply BitVec.eq_of_toNat_eq
  simp only [opcodeOfWord, layoutWord, List.headD_cons, BitVec.toNat_ofNat]
  exact Nat.mod_mod_of_dvd w hdvd

/-- Bytes above the first leave the opcode byte of a 24-bit word alone. -/
theorem opcodeOfWord_opcode_add (b : Byte) (operands : Nat) : opcodeOfWord 24 (b.toNat + 256 * operands) = b := by
  rw [opcodeOfWord_eq_ofNat (by decide)]
  apply BitVec.eq_of_toNat_eq
  rw [BitVec.toNat_ofNat]
  omega

/-- The decoder reads nothing of a table word but its opcode byte. -/
theorem decodeTableWord_eq (nbits w : Nat) : decodeTableWord nbits w = some (decodeByte (opcodeOfWord nbits w)) := rfl

end Sys2Proof

namespace Sys2Proof.Machine

/-- A query that presents an opcode is the query it was, a PEN query excepted. -/
theorem Query.presenting_eq (q : Query) : q.presenting = if q = .cost then .decodeAndCost else q := by
  cases q <;> rfl

/-- The next step after an opcode is presented runs the instruction of that opcode (log entry 7). -/
theorem step_presentOpcode (s : State) (b : Byte) :
    step (s.presentOpcode b) = exec (decodeByte b) (s.presentOpcode b) :=
  step_eq_exec (Query.presenting_ne_cost s.query)

end Sys2Proof.Machine
end

section
/-! The statements of family 10_state: the state's invariant, the units at their ports, and what a query depends on and
leaves. -/

namespace Sys2Proof.Machine

/-- Settles O50: a step settles both units, `as_instruction` answers well-formed descriptors only, and a step writes
nothing but codes of values on PEN's inputs. -/
theorem everyStepKeepsOutputsSettled : Obligations.EveryStepKeepsOutputsSettled := by
  unfold Obligations.EveryStepKeepsOutputsSettled
  refine ⟨fun s t ⟨_, hvalues, _⟩ hstep => ?_, fun s ⟨_, hvalues, _⟩ => continues_of_penInputsAreValues hvalues⟩
  obtain ⟨hdec, hpen⟩ : Settled t := step_settled hstep
  have hwf : t.descriptor.wellFormed = true := hdec ▸ asInstruction_wellFormed t.decOpcode t.decRequestedSet
  exact ⟨⟨hdec, hpen⟩, step_penInputsAreValues hstep hvalues, hwf⟩

/-- Settles O26: the ROM image holds the table's words, and on codes of values the length logic and the class comparison
are `instruction_length` and `classify`. -/
theorem decHardwareRefinesAsInstruction : Obligations.DecHardwareRefinesAsInstruction := by
  unfold Obligations.DecHardwareRefinesAsInstruction
  intro b x
  simp only [decUnit, romImage_eq_romWord, wordMnemonic_romWord, wordMode_romWord, wordBase_romWord, classBit_code,
    lengthOfModeCode_code, InstructionSet.code_inj]
  by_cases h : classify (table b).mnemonic = x
  · rw [if_pos h, asInstruction_decoded h]; rfl
  · rw [if_neg h, asInstruction_sentinel h]; rfl

/-- Settles O27: PEN answers on codes of values, and the two enumerations have 76 and 13 codes. -/
theorem penHardwareRefusesNonValuesOnly : Obligations.PenHardwareRefusesNonValuesOnly := by
  unfold Obligations.PenHardwareRefusesNonValuesOnly
  intro m a c r
  exact ⟨fun v => penUnit_eq_ok_iff, penUnit_not_mnemonic, penUnit_not_mode⟩

/-- Settles O46: the word's bits 7:0 are the instruction's byte, which is all that presenting a word drives. -/
theorem presentedWordRunsNext : Obligations.PresentedWordRunsNext := by
  unfold Obligations.PresentedWordRunsNext
  intro s i operands w
  have hop : opcodeOfWord 24 w = encodeByte i := opcodeOfWord_opcode_add (encodeByte i) operands
  refine ⟨?_, ?_, ?_⟩
  · rw [decodeTableWord_eq, hop, decodeByte_encodeByte]
  · rw [State.withFetchWord, hop, step_presentOpcode, decodeByte_encodeByte]
  · rw [State.withFetchWord, hop, State.presentOpcode, Query.presenting_eq]

/-- Settles O51: a step and an instruction both end in settled units, the instruction's byte on `dec_opcode`. -/
theorem everyQuerySettlesItsUnit : Obligations.EveryQuerySettlesItsUnit := by
  unfold Obligations.EveryQuerySettlesItsUnit
  refine ⟨fun s t => step_settled, ?_⟩
  intro i s t h
  rw [← exec_eq_next_iff.mp h]
  exact ⟨evaluated_settled _ s, evaluated_decOpcode _ s⟩

/-- Settles O52: every instruction is the evaluation of its byte, whose frame is known for both ways of asking. -/
theorem everyInstructionKeepsItsFrame : Obligations.EveryInstructionKeepsItsFrame := by
  unfold Obligations.EveryInstructionKeepsItsFrame
  intro i s t h
  rw [← exec_eq_next_iff.mp h]
  exact ⟨evaluated_decOpcode _ s, evaluated_hostInputsKept _ s, evaluated_penInputsKept _, evaluated_penInputs_fed _⟩

/-- Settles O53: neither an evaluation nor a PEN query reads an output. -/
theorem answersDependOnInputsOnly : Obligations.AnswersDependOnInputsOnly := by
  unfold Obligations.AnswersDependOnInputsOnly
  intro s t h
  refine ⟨step_congr h, fun i => ?_⟩
  rw [exec_eq_next, exec_eq_next, evaluated_congr (encodeByte i) h]

/-- Settles O54: both kinds of query leave the state they would answer with again. -/
theorem repeatedQueryChangesNothing : Obligations.RepeatedQueryChangesNothing := by
  unfold Obligations.RepeatedQueryChangesNothing
  intro s t h
  obtain ⟨hq, rfl⟩ | ⟨hq, m, a, hm, ha, rfl⟩ := step_cases h
  · have hq' : (evaluated (encodeByte (fetch s)) s).query ≠ .cost := (evaluated_query _ s).symm ▸ hq
    rw [step_eq_evaluated hq', evaluated_decOpcode, evaluated_idem]
  · exact (step_cost hq).trans (queryCost_next hm ha)

/-- Settles O55: an opcode query is answered under the set that stands on `dec_requested_set` then. -/
theorem requestedSetIsPerQuery : Obligations.RequestedSetIsPerQuery := by
  unfold Obligations.RequestedSetIsPerQuery
  intro s t b x _
  exact ⟨_, step_eq_evaluated (Query.presenting_ne_cost t.query), evaluated_descriptor _ _⟩

/-- Settles O45: `decode` of one byte is `decodeByte` of it, the instruction a step runs. -/
theorem stepRunsTheDecodedInstruction : Obligations.StepRunsTheDecodedInstruction := by
  unfold Obligations.StepRunsTheDecodedInstruction
  intro s
  refine ⟨fun hq i rest hdec => ?_, step_cost⟩
  have hi : decodeByte s.decOpcode = i := congrArg Prod.fst (Except.ok.inj hdec)
  rw [step_eq_exec hq, hi]

end Sys2Proof.Machine
end

section
/-! Addresses and their ranges, read as numbers (R31, R38 to R43). -/

namespace Sys2Proof.Machine

theorem Address.toNat_inj {a b : Address} : a.raw.toNat = b.raw.toNat ↔ a = b := by
  rw [BitVec.toNat_inj, Address.mk.injEq]

@[simp] theorem Address.bytes_fst_toNat (a : Address) : a.bytes.1.toNat = a.raw.toNat / 256 := by
  simp only [Address.bytes, BitVec.extractLsb'_toNat, Nat.shiftRight_eq_div_pow]; omega

@[simp] theorem Address.bytes_snd_toNat (a : Address) : a.bytes.2.toNat = a.raw.toNat % 256 := by
  simp only [Address.bytes, BitVec.extractLsb'_toNat, Nat.shiftRight_zero]

@[simp] theorem Address.fromBytes_raw_toNat (p : Byte × Byte) :
    (Address.fromBytes p).raw.toNat = 256 * p.1.toNat + p.2.toNat := by
  rw [Address.fromBytes, BitVec.toNat_append, ← Nat.shiftLeft_add_eq_or_of_lt p.2.isLt, Nat.shiftLeft_eq]
  omega

/-- R38, R39: the constructor from two bytes undoes the encoding. -/
@[simp] theorem Address.fromBytes_bytes (a : Address) : Address.fromBytes a.bytes = a := by
  rw [← Address.toNat_inj, Address.fromBytes_raw_toNat, Address.bytes_fst_toNat, Address.bytes_snd_toNat]
  exact Nat.div_add_mod _ _

/-- R38, R39: the encoding undoes the constructor from two bytes. -/
@[simp] theorem Address.bytes_fromBytes (p : Byte × Byte) : (Address.fromBytes p).bytes = p := by
  have hfst := p.1.isLt
  have hsnd := p.2.isLt
  apply Prod.ext <;> apply BitVec.eq_of_toNat_eq
  · rw [Address.bytes_fst_toNat, Address.fromBytes_raw_toNat]; omega
  · rw [Address.bytes_snd_toNat, Address.fromBytes_raw_toNat]; omega

@[simp] theorem Address.lt_eq_true_iff {a b : Address} : a.lt b = true ↔ a.raw.toNat < b.raw.toNat := by
  rw [Address.lt, decide_eq_true_iff, BitVec.lt_def]

/-- Two addresses are on one page when their first bytes agree. -/
theorem pageRelation_eq_same_iff {a b : Address} :
    pageRelation a b = .SAME ↔ a.raw.toNat / 256 = b.raw.toNat / 256 := by
  rw [← Address.bytes_fst_toNat, ← Address.bytes_fst_toNat, BitVec.toNat_inj]
  change pageRelation a b = .SAME ↔ a.page = b.page
  by_cases h : a.page = b.page <;> simp [pageRelation, h]

theorem AddressRange.normalized_iff {r : AddressRange} :
    r.normalized = true ↔ r.first.raw.toNat ≤ r.till.raw.toNat := by
  simp [AddressRange.normalized, Bool.eq_false_iff]

theorem AddressRange.contains_iff {r : AddressRange} {a : Address} :
    r.contains a = true ↔ r.first.raw.toNat ≤ a.raw.toNat ∧ a.raw.toNat ≤ r.till.raw.toNat := by
  simp [AddressRange.contains, Bool.eq_false_iff]

theorem AddressRange.overlaps_iff {r q : AddressRange} :
    r.overlaps q = true ↔ r.first.raw.toNat ≤ q.till.raw.toNat ∧ q.first.raw.toNat ≤ r.till.raw.toNat := by
  simp [AddressRange.overlaps, Bool.eq_false_iff]

theorem AddressRange.new_of_le {a b : Address} (h : a.raw.toNat ≤ b.raw.toNat) : AddressRange.new a b = ⟨a, b⟩ :=
  if_neg (mt Address.lt_eq_true_iff.mp (Nat.not_lt.mpr h))

/-- R41: the order of the endpoints makes no difference. -/
theorem AddressRange.new_comm (a b : Address) : AddressRange.new a b = AddressRange.new b a := by
  obtain hlt | heq | hgt := Nat.lt_trichotomy a.raw.toNat b.raw.toNat
  · exact (AddressRange.new_of_le hlt.le).trans (if_pos (Address.lt_eq_true_iff.mpr hlt)).symm
  · rw [Address.toNat_inj.mp heq]
  · exact (if_pos (Address.lt_eq_true_iff.mpr hgt)).trans (AddressRange.new_of_le hgt.le).symm

/-- R41: the two endpoints, the lower one first. -/
theorem AddressRange.new_spec (a b : Address) :
    (AddressRange.new a b).normalized = true ∧
      (AddressRange.new a b = ⟨a, b⟩ ∨ AddressRange.new a b = ⟨b, a⟩) := by
  obtain hle | hle := Nat.le_total a.raw.toNat b.raw.toNat
  · rw [AddressRange.new_of_le hle]
    exact ⟨AddressRange.normalized_iff.mpr hle, .inl rfl⟩
  · rw [AddressRange.new_comm, AddressRange.new_of_le hle]
    exact ⟨AddressRange.normalized_iff.mpr hle, .inr rfl⟩

/-- R42: the size counts both ends; in 64 bits neither the difference nor the sum wraps. -/
theorem AddressRange.size_toNat {r : AddressRange} (h : r.normalized = true) :
    r.size.toNat = r.till.raw.toNat - r.first.raw.toNat + 1 := by
  have hle := AddressRange.normalized_iff.mp h
  have htill := r.till.raw.isLt
  have hone : (1 : BitVec 64).toNat = 1 := rfl
  simp only [AddressRange.size, BitVec.toNat_add, BitVec.toNat_sub, BitVec.toNat_setWidth, hone]
  omega

/-- R43: where two closed intervals overlap, the greater of their first ends belongs to both. -/
theorem AddressRange.overlaps_iff_exists {r q : AddressRange} (hr : r.normalized = true) (hq : q.normalized = true) :
    r.overlaps q = true ↔ ∃ a, r.contains a = true ∧ q.contains a = true := by
  rw [AddressRange.normalized_iff] at hr hq
  simp only [AddressRange.overlaps_iff, AddressRange.contains_iff]
  constructor
  · rintro ⟨hrq, hqr⟩
    obtain hle | hle := Nat.le_total r.first.raw.toNat q.first.raw.toNat
    · exact ⟨q.first, ⟨hle, hqr⟩, Nat.le_refl _, hq⟩
    · exact ⟨r.first, ⟨Nat.le_refl _, hr⟩, hle, hrq⟩
  · rintro ⟨a, ⟨hra, har⟩, hqa, haq⟩
    exact ⟨hra.trans haq, hqa.trans har⟩

end Sys2Proof.Machine
end

section
/-! Devices (R44 to R46): what each operation does to the cell of its handle, and that it leaves every other cell. -/

namespace Sys2Proof.Machine

/-- A handle with a cell reads what was last put there. -/
theorem Devices.cell_set_self {ds : Devices} {d : Device} {c : DeviceCell} (h : ds.cell d = some c)
    (o : Option DeviceCell) : Devices.cell (ds.set d.id o) d = o := by
  have hlive : d.id < ds.length := by
    by_contra hout
    simp [Devices.cell, List.getElem?_eq_none (Nat.not_lt.mp hout)] at h
  simp [Devices.cell, hlive]

theorem Devices.cell_set_ne {d e : Device} (h : e ≠ d) (ds : Devices) (o : Option DeviceCell) :
    Devices.cell (ds.set d.id o) e = ds.cell e := by
  have hid : d.id ≠ e.id := fun hid => h (congrArg Device.mk hid.symm)
  rw [Devices.cell, Devices.cell, List.getElem?_set_ne hid]

@[simp] theorem Devices.cell_wrap_self {σ : Type} (ds : Devices) (impl : DeviceImpl σ) (init : σ) :
    (ds.wrap impl init).2.cell (ds.wrap impl init).1 = some ⟨σ, impl, init, 1⟩ := by
  simp [Devices.cell, Devices.wrap]

theorem Devices.cell_wrap_of_lt {σ : Type} {ds : Devices} {e : Device} (h : e.id < ds.length)
    (impl : DeviceImpl σ) (init : σ) : (ds.wrap impl init).2.cell e = ds.cell e := by
  rw [Devices.wrap, Devices.cell, Devices.cell, List.getElem?_append_left h]

/-- A handle to a device of the store that stood before is not the one a wrap answers. -/
theorem Devices.ne_wrap_of_lt {σ : Type} {ds : Devices} {e : Device} (h : e.id < ds.length)
    (impl : DeviceImpl σ) (init : σ) : e ≠ (ds.wrap impl init).1 :=
  fun he => Nat.ne_of_lt h (congrArg Device.id he)

theorem Devices.wrap_id_lt_length {σ : Type} (ds : Devices) (impl : DeviceImpl σ) (init : σ) :
    (ds.wrap impl init).1.id < (ds.wrap impl init).2.length := by
  simp [Devices.wrap]

theorem Devices.length_le_wrap {σ : Type} (ds : Devices) (impl : DeviceImpl σ) (init : σ) :
    ds.length ≤ (ds.wrap impl init).2.length := by
  simp [Devices.wrap]

/-- R44: the byte a read answers is the implementation's own. -/
theorem Devices.read_fst {ds : Devices} {d : Device} {c : DeviceCell} (h : ds.cell d = some c) (x y : Address) :
    (ds.read d x y).map Prod.fst = some (c.impl.read c.state x y).1 := by
  simp [Devices.read, h]

theorem Devices.read_eq_none {ds : Devices} {d : Device} (h : ds.cell d = none) (x y : Address) :
    ds.read d x y = none := by
  simp [Devices.read, h]

/-- R46: a copy is one more handle to the same implementation. -/
theorem Devices.copy_spec {ds : Devices} {d : Device} {c : DeviceCell} (h : ds.cell d = some c) :
    ∃ ds', ds.copy d = some (d, ds') ∧ ds'.cell d = some { c with handles := c.handles + 1 } ∧
      ∀ e, e ≠ d → ds'.cell e = ds.cell e :=
  ⟨_, by rw [Devices.copy, h, Option.map_some], Devices.cell_set_self h _, fun _ he => Devices.cell_set_ne he ds _⟩

/-- R45: a write answers the implementation's status and leaves the implementation's next state. -/
theorem Devices.write_spec {ds : Devices} {d : Device} {c : DeviceCell} (h : ds.cell d = some c) (x y : Address)
    (v : Byte) :
    ∃ ds', ds.write d x y v = some ((c.impl.write c.state x y v).1, ds') ∧
      ds'.cell d = some (c.moved (c.impl.write c.state x y v).2) ∧ ∀ e, e ≠ d → ds'.cell e = ds.cell e :=
  ⟨_, by rw [Devices.write, h, Option.map_some], Devices.cell_set_self h _, fun _ he => Devices.cell_set_ne he ds _⟩

/-- R46: dropping a handle leaves the implementation to the other handles; the last one takes it along. -/
theorem Devices.drop_spec {ds : Devices} {d : Device} {c : DeviceCell} (h : ds.cell d = some c) :
    ∃ ds', ds.drop d = some ds' ∧
      ds'.cell d = (if c.handles ≤ 1 then none else some { c with handles := c.handles - 1 }) ∧
      ∀ e, e ≠ d → ds'.cell e = ds.cell e :=
  ⟨_, by rw [Devices.drop, h, Option.map_some], Devices.cell_set_self h _, fun _ he => Devices.cell_set_ne he ds _⟩

end Sys2Proof.Machine
end

section
/-! The statements of family 20_memory: the block's neighbours. -/

namespace Sys2Proof.Machine

/-- Settles O56: the two bytes are the quotient and the remainder of `raw` by 256, and the order is that of numbers. -/
theorem addressBytesAndOrder : Obligations.AddressBytesAndOrder := by
  unfold Obligations.AddressBytesAndOrder
  refine ⟨fun raw => Address.fromBytes_bytes ⟨raw⟩, Address.bytes_fromBytes, fun a => ?_,
    fun a b => Address.lt_eq_true_iff, fun a b hne => ?_, fun a b => pageRelation_eq_same_iff⟩
  · rw [Address.bytes_fst_toNat, Address.bytes_snd_toNat]
    exact (Nat.div_add_mod _ _).symm
  · have hraw : a.raw.toNat ≠ b.raw.toNat := mt Address.toNat_inj.mp hne
    rw [Address.lt_eq_true_iff, Address.lt_eq_true_iff]
    omega

/-- Settles O57: construction puts the endpoints in order, and each operation compares numbers. -/
theorem addressRangesAreClosedIntervals : Obligations.AddressRangesAreClosedIntervals := by
  unfold Obligations.AddressRangesAreClosedIntervals
  refine ⟨fun a b => ?_, fun r hr => ?_, fun r a => AddressRange.contains_iff,
    fun r q => AddressRange.overlaps_iff_exists⟩
  · obtain ⟨hnormalized, hends⟩ := AddressRange.new_spec a b
    exact ⟨hnormalized, AddressRange.new_comm a b, hends⟩
  · rw [AddressRange.size_toNat hr]
    exact ⟨rfl, Nat.le_add_left _ _⟩

/-- Settles O58: the four operations go through one handle, so they leave every other cell, and the handle count goes
from 1 to 2 and back to 1 before the last drop. -/
theorem deviceCopiesShareTheirState : Obligations.DeviceCopiesShareTheirState := by
  unfold Obligations.DeviceCopiesShareTheirState
  intro σ τ ds impl init second start x y v w o
  have hlt : w.1.id < w.2.length := Devices.wrap_id_lt_length ds impl init
  have hfirst : o.2.cell w.1 = some ⟨σ, impl, init, 1⟩ :=
    (Devices.cell_wrap_of_lt hlt second start).trans (Devices.cell_wrap_self ds impl init)
  have hsecond : o.2.cell o.1 = some ⟨τ, second, start, 1⟩ := Devices.cell_wrap_self w.2 second start
  obtain ⟨ds1, hcopy, hcell1, hframe1⟩ := Devices.copy_spec hfirst
  obtain ⟨ds2, hwrite, hcell2, hframe2⟩ := Devices.write_spec hcell1 x y v
  obtain ⟨ds3, hdrop, hcell3, hframe3⟩ := Devices.drop_spec hcell2
  obtain ⟨ds4, hlast, hcell4, hframe4⟩ := Devices.drop_spec hcell3
  have hwritten : ds3.cell w.1 = some ⟨σ, impl, (impl.write init x y v).2, 1⟩ := hcell3
  have hgone : ds4.cell w.1 = none := hcell4
  have hframe : ∀ e, e ≠ w.1 → ds4.cell e = o.2.cell e := fun e he => by
    rw [hframe4 e he, hframe3 e he, hframe2 e he, hframe1 e he]
  have hother : ds4.cell o.1 = some ⟨τ, second, start, 1⟩ :=
    (hframe o.1 (Devices.ne_wrap_of_lt hlt second start).symm).trans hsecond
  refine ⟨Devices.read_fst hfirst x y, w.1, ds1, ds2, ds3, ds4, hcopy, hwrite, hdrop,
    Devices.read_fst hwritten x y, hlast, Devices.read_eq_none hgone x y, Devices.read_fst hother x y, fun e he => ?_⟩
  calc ds4.cell e = o.2.cell e := hframe e (Devices.ne_wrap_of_lt he impl init)
    _ = w.2.cell e := Devices.cell_wrap_of_lt (he.trans_le (Devices.length_le_wrap ds impl init)) second start
    _ = ds.cell e := Devices.cell_wrap_of_lt he impl init

end Sys2Proof.Machine
end

section
/-! Byte strings: what the whole-instruction decoder answers on enough and on too few bytes, and its round trip with
`encode` (R50, R56). -/

namespace Sys2Proof

open Sys2Proof.Machine

/-- R81: no encoded length is 0. -/
theorem instructionLength_pos (a : AddressingMode) : 0 < (instructionLength a).toNat := by cases a <;> decide

/-- R56, R82: the opcode byte and the operand bytes make up the encoded length. -/
theorem operandCount_add_one (i : Instr) :
    i.operandCount + 1 = (instructionLength (table (encodeByte i)).mode).toNat :=
  Nat.sub_add_cancel (instructionLength_pos _)

theorem operandCount_decodeByte_add_one (b : Byte) :
    (decodeByte b).operandCount + 1 = (instructionLength (table b).mode).toNat := by
  rw [operandCount_add_one, encodeByte_decodeByte]

theorem wellFormed_iff_length_operands {x : InstrBytes} :
    x.wellFormed = true ↔ x.operands.length = x.instr.operandCount := beq_iff_eq

/-- R50: as many bytes as the opcode's length asks for are an instruction, the rest is left. -/
theorem decodeInstrBytes_cons_of_le {b : Byte} {bytes : List Byte}
    (h : (decodeByte b).operandCount ≤ bytes.length) :
    decodeInstrBytes (b :: bytes) =
      .ok (⟨decodeByte b, bytes.take (decodeByte b).operandCount⟩, bytes.drop (decodeByte b).operandCount) :=
  if_pos h

/-- The one rejection of a byte string that has an opcode byte (log entry 13). -/
theorem decodeInstrBytes_cons_of_lt {b : Byte} {bytes : List Byte}
    (h : bytes.length < (decodeByte b).operandCount) :
    decodeInstrBytes (b :: bytes) =
      .error (.operandBytesMissing (decodeByte b) (decodeByte b).operandCount bytes.length) :=
  if_neg (Nat.not_le_of_lt h)

/-- R50: the operand bytes of a well-formed instruction are cut off where they end, whatever follows. -/
theorem decodeInstrBytes_encode_append {x : InstrBytes} (h : x.wellFormed = true) (rest : List Byte) :
    decodeInstrBytes (encode x ++ rest) = .ok (x, rest) := by
  have hlen := wellFormed_iff_length_operands.mp h
  have henough : (decodeByte (encodeByte x.instr)).operandCount ≤ (x.operands ++ rest).length := by
    rw [decodeByte_encodeByte, List.length_append, hlen]; exact Nat.le_add_right _ _
  rw [encode, List.cons_append, decodeInstrBytes_cons_of_le henough, decodeByte_encodeByte, ← hlen,
    List.take_left, List.drop_left]

/-- R50: cutting a byte string drops no byte and invents none. -/
theorem wellFormed_and_encode_append_of_decodeInstrBytes {bytes : List Byte} {x : InstrBytes} {rest : List Byte}
    (h : decodeInstrBytes bytes = .ok (x, rest)) : x.wellFormed = true ∧ encode x ++ rest = bytes := by
  cases bytes with
  | nil => cases h
  | cons b bytes =>
    by_cases henough : (decodeByte b).operandCount ≤ bytes.length
    · rw [decodeInstrBytes_cons_of_le henough] at h
      cases h
      refine ⟨wellFormed_iff_length_operands.mpr (List.length_take_of_le henough), ?_⟩
      rw [encode, encodeByte_decodeByte, List.cons_append, List.take_append_drop]
    · rw [decodeInstrBytes_cons_of_lt (Nat.lt_of_not_le henough)] at h
      cases h

/-- R27, R81: an instruction has as many bytes as its mode's length says. -/
theorem length_encode {x : InstrBytes} (h : x.wellFormed = true) :
    (encode x).length = (instructionLength (table (encodeByte x.instr)).mode).toNat := by
  rw [encode, List.length_cons, wellFormed_iff_length_operands.mp h, operandCount_add_one]

end Sys2Proof
end

section
/-! Codes as patterns, ROM words as entries, and the cycle values of a well-formed descriptor (R52, R53, R63, R66). -/

namespace Sys2Proof.Machine

theorem Mnemonic.isSome_ofCode_iff {c : MnemonicCode} : (Mnemonic.ofCode c).isSome = true ↔ c.toNat < 76 :=
  Option.isSome_iff_ne_none.trans ((not_congr ofCode_eq_none_iff).trans Nat.not_le)

theorem AddressingMode.isSome_ofCode_iff {c : ModeCode} : (AddressingMode.ofCode c).isSome = true ↔ c.toNat < 13 :=
  Option.isSome_iff_ne_none.trans ((not_congr ofCode_eq_none_iff).trans Nat.not_le)

/-- R66: a ROM word is its three fields, with no bit between them. -/
theorem wordFields_append (w : RomWord) : wordMnemonic w ++ wordMode w ++ wordBase w = w := by
  have hcodes : wordMnemonic w ++ wordMode w = w.extractLsb' 4 11 :=
    BitVec.extractLsb'_append_extractLsb'_eq_extractLsb' rfl
  calc wordMnemonic w ++ wordMode w ++ wordBase w = w.extractLsb' 4 11 ++ w.extractLsb' 0 4 := by rw [hcodes, wordBase]
    _ = w.extractLsb' 0 15 := BitVec.extractLsb'_append_extractLsb'_eq_extractLsb' rfl
    _ = w := BitVec.extractLsb'_eq_self

/-- R66: reading a word and writing an entry's word are inverse. -/
theorem entryOfWord_eq_some_iff {w : RomWord} {e : Entry} : entryOfWord w = some e ↔ romWord e = w := by
  constructor
  · intro h
    cases hm : Mnemonic.ofCode (wordMnemonic w) with
    | none => simp [entryOfWord, hm] at h
    | some m =>
      cases ha : AddressingMode.ofCode (wordMode w) with
      | none => simp [entryOfWord, hm, ha] at h
      | some a =>
        simp only [entryOfWord, hm, ha, Option.some.injEq] at h
        rw [← h, romWord, Mnemonic.ofCode_eq_some_iff.mp hm, AddressingMode.ofCode_eq_some_iff.mp ha,
          wordFields_append]
  · rintro rfl
    simp [entryOfWord]

/-- R63(a) and (b): for every table, unit DEC's length and class are those of its own mode and mnemonic. -/
theorem asInstructionWith_length_and_set (tbl : Byte → Entry) (so : Byte → Byte) (b : Byte) (x : InstructionSet) :
    (asInstructionWith tbl so b x).length = instructionLength (asInstructionWith tbl so b x).mode ∧
    (asInstructionWith tbl so b x).instructionSet = classify (asInstructionWith tbl so b x).mnemonic := by
  by_cases h : classify (tbl b).mnemonic = x
  · rw [asInstructionWith_decoded h]; exact ⟨rfl, rfl⟩
  · rw [asInstructionWith_sentinel h]; exact ⟨rfl, classify_NOP.symm⟩

/-- R63(c): a descriptor that is not of the requested class is the sentinel. -/
theorem asInstructionWith_requested_or_sentinel (tbl : Byte → Entry) (so : Byte → Byte) (b : Byte)
    (x : InstructionSet) :
    (asInstructionWith tbl so b x).instructionSet = x ∨ asInstructionWith tbl so b x = sentinelWith so b := by
  by_cases h : classify (tbl b).mnemonic = x
  · rw [asInstructionWith_decoded h]; exact .inl h
  · exact .inr (asInstructionWith_sentinel h)

/-- R63(d), read off the check of a well-formed descriptor. -/
theorem Descriptor.cycles_of_wellFormed {d : Descriptor} (h : d.wellFormed = true) :
    d.cycles.toNat ≠ 1 ∧ d.cycles.toNat ≤ 8 ∧ (d.cycles = 0 ↔ d.mnemonic = .JAM) := by
  simp only [wellFormed, Bool.and_eq_true, bne_iff_ne, decide_eq_true_eq, Bool.beq_eq_decide_eq] at h
  obtain ⟨⟨⟨_, hone⟩, hle⟩, hjam⟩ := h
  exact ⟨fun h1 => hone (BitVec.eq_of_toNat_eq h1), hle, by simpa using hjam⟩

end Sys2Proof.Machine
end

section
/-! Counts and checksums over all 256 rows (R57, R58), each one evaluation of the two lists in the kernel. -/

namespace Sys2Proof.Machine

open Sys2Proof.Rules

/-- R57: the bytes by the class of their mnemonic, and the official ones. -/
theorem countBytes_class :
    countBytes (fun b => classify (table b).mnemonic == .STANDARD) = 179 ∧
    countBytes (fun b => classify (table b).mnemonic == .NMOS) = 77 ∧
    countBytes officialOpcode = 151 := by
  decide +kernel

theorem filter_mnemonic_jam :
    allBytes.filter (fun b => (table b).mnemonic == .JAM) =
      [0x02, 0x12, 0x22, 0x32, 0x42, 0x52, 0x62, 0x72, 0x92, 0xB2, 0xD2, 0xF2] := by
  decide +kernel

/-- 95_test_vectors.md section 2.3: the histogram of the base cycles, and their sum. -/
theorem countBytes_baseCycles :
    [0, 2, 3, 4, 5, 6, 7, 8].map (fun n => countBytes fun b => (table b).baseCycles.toNat == n) =
      [12, 60, 23, 64, 27, 39, 19, 12] ∧
    (allBytes.map fun b => (table b).baseCycles.toNat).sum = 1043 := by
  decide +kernel

/-- 95_test_vectors.md section 2.1: the bytes by encoded length and by mode. -/
theorem countBytes_length_and_mode :
    [1, 2, 3].map (fun n => countBytes fun b => (instructionLength (table b).mode).toNat == n) = [47, 128, 81] ∧
    modesByCode.map (fun a => countBytes fun b => (table b).mode == a) =
      [32, 28, 20, 4, 24, 43, 1, 16, 16, 8, 32, 28, 4] := by
  decide +kernel

theorem countBytes_penaltyClass :
    [PenaltyClass.BRANCH, .INDEXED_READ, .NONE].map
      (fun c => countBytes fun b => penaltyClass (table b).mnemonic (table b).mode == c) = [8, 26, 222] := by
  decide +kernel

/-- R57: every mnemonic has an opcode byte. -/
theorem table_mnemonic_surjective :
    mnemonicsByCode.all (fun m => allBytes.any fun b => (table b).mnemonic == m) = true := by
  decide +kernel

/-- 95_test_vectors.md section 6: the checksums of the ROM image. -/
theorem romImage_checksums :
    (allBytes.map fun b => (romImage b).toNat).sum = 2573731 ∧
    allBytes.foldl (fun x b => x ^^^ romImage b) 0 = 0x4D37 := by
  decide +kernel

end Sys2Proof.Machine
end

section
/-! The statements of family 30_encoding: byte strings, codes, ROM words and the table as a whole. -/

namespace Sys2Proof.Machine

/-- Settles O3: the opcode byte decodes to the instruction, whose length says where the operand bytes end. -/
theorem instructionBytesRoundTrip : Obligations.InstructionBytesRoundTrip := by
  unfold Obligations.InstructionBytesRoundTrip
  exact fun x rest h => ⟨decodeInstrBytes_encode_append h rest, length_encode h⟩

/-- Settles O2: one direction by cases on the instruction, the other over the 256 bytes. -/
theorem opcodeBytesAndInstructionsAgree : Obligations.OpcodeBytesAndInstructionsAgree := by
  unfold Obligations.OpcodeBytesAndInstructionsAgree
  exact ⟨decodeByte_encodeByte, encodeByte_decodeByte⟩

/-- Settles O4: the decoder cuts the bytes after the opcode in two. -/
theorem decodedBytesReencode : Obligations.DecodedBytesReencode := by
  unfold Obligations.DecodedBytesReencode
  exact fun bytes x rest => wellFormed_and_encode_append_of_decodeInstrBytes

/-- Settles O5: the operand bytes the decoder asks for are one fewer than the length of the opcode's mode. -/
theorem byteStringsRejectedOnlyWhenShort : Obligations.ByteStringsRejectedOnlyWhenShort := by
  unfold Obligations.ByteStringsRejectedOnlyWhenShort
  refine ⟨rfl, fun b rest => ⟨rfl, fun hshort => ?_, fun hlong => ?_⟩⟩
  · rw [← operandCount_decodeByte_add_one] at hshort ⊢
    exact decodeInstrBytes_cons_of_lt (Nat.lt_of_succ_lt_succ hshort)
  · rw [← operandCount_decodeByte_add_one] at hlong
    exact ⟨_, _, decodeInstrBytes_cons_of_le (Nat.le_of_succ_le_succ hlong), rfl⟩

/-- Settles O6: each enumeration is the list of its values in the order of their codes. -/
theorem enumerationCodesAreExact : Obligations.EnumerationCodesAreExact := by
  unfold Obligations.EnumerationCodesAreExact
  exact ⟨fun c m => Mnemonic.ofCode_eq_some_iff, fun c => Mnemonic.isSome_ofCode_iff,
    fun c a => AddressingMode.ofCode_eq_some_iff, fun c => AddressingMode.isSome_ofCode_iff,
    InstructionSet.ofCode_code, PageBoundary.ofCode_code⟩

/-- Settles O9: both directions are the equivalence of reading a word and writing an entry's. -/
theorem romWordsAndEntriesAgree : Obligations.RomWordsAndEntriesAgree := by
  unfold Obligations.RomWordsAndEntriesAgree
  exact ⟨fun e => entryOfWord_eq_some_iff.mpr rfl, fun w e => entryOfWord_eq_some_iff.mp⟩

/-- Settles O14: a descriptor is a real decode or the sentinel, and a well-formed one has no other cycle values. -/
theorem descriptorInvariants : Obligations.DescriptorInvariants := by
  unfold Obligations.DescriptorInvariants
  refine ⟨fun tbl so b x => ?_, fun b x => ?_⟩
  · obtain ⟨hlength, hset⟩ := asInstructionWith_length_and_set tbl so b x
    exact ⟨hlength, hset, asInstructionWith_requested_or_sentinel tbl so b x⟩
  · have hwf := asInstruction_wellFormed b x
    obtain ⟨hone, hle, hjam⟩ := Descriptor.cycles_of_wellFormed hwf
    refine ⟨hwf, ?_, hjam⟩
    simp only [List.mem_cons, List.not_mem_nil, or_false]
    omega

/-- Settles O1: the decoder reads a word's bits 7:0 only, and looks that byte up in the matrix. -/
theorem opcodeWordsDecode : Obligations.OpcodeWordsDecode := by
  unfold Obligations.OpcodeWordsDecode
  simp only [decodeTableWord_eq]
  decide

/-- Settles O8: the image holds the entry's word, whose three fields are the entry's codes. -/
theorem romImageHoldsTheTable : Obligations.RomImageHoldsTheTable := by
  unfold Obligations.RomImageHoldsTheTable
  intro b
  have hword := romImage_eq_romWord b
  refine ⟨hword, ?_, ?_, ?_, entryOfWord_eq_some_iff.mpr hword.symm⟩ <;> rw [hword]
  · exact wordMnemonic_romWord _
  · exact wordMode_romWord _
  · exact wordBase_romWord _

/-- Settles O17: the counts over the table, the checksums over the image, and the entries of the three pinned bytes. -/
theorem tableCensus : Obligations.TableCensus := by
  unfold Obligations.TableCensus
  obtain ⟨hstandard, hnmos, hofficial⟩ := countBytes_class
  obtain ⟨hhistogram, hcycles⟩ := countBytes_baseCycles
  obtain ⟨hlengths, hmodes⟩ := countBytes_length_and_mode
  obtain ⟨hsum, hxor⟩ := romImage_checksums
  exact ⟨hstandard, hnmos, hofficial, filter_mnemonic_jam, hhistogram, hlengths, hmodes, countBytes_penaltyClass,
    table_mnemonic_surjective, hcycles, hsum, hxor, rfl, rfl, rfl⟩

end Sys2Proof.Machine
end

section
/-! The statements of family 40_taxonomy_functions: the length of an instruction by its mode, and the class of a
mnemonic, by its name and by its code. -/

namespace Sys2Proof.Machine

/-- R83: a mnemonic is undocumented exactly when it stands in the list. -/
theorem classify_eq_nmos_iff_mem {m : Mnemonic} : classify m = .NMOS ↔ m ∈ undocumentedMnemonics := by
  by_cases h : m ∈ undocumentedMnemonics <;> simp [classify, h]

theorem classify_eq_standard_iff_not_mem {m : Mnemonic} : classify m = .STANDARD ↔ m ∉ undocumentedMnemonics := by
  by_cases h : m ∈ undocumentedMnemonics <;> simp [classify, h]

/-- R84: the class bit of any 7-bit pattern is the code of `NMOS` from 56 upwards. -/
theorem classBit_eq_code_nmos_iff {c : MnemonicCode} : classBit c = InstructionSet.NMOS.code ↔ 56 ≤ c.toNat := by
  by_cases h : (56 : MnemonicCode) ≤ c
  · exact iff_of_true (if_pos h) (BitVec.le_def.mp h)
  · have hzero : classBit c = InstructionSet.STANDARD.code := if_neg h
    exact iff_of_false (hzero ▸ by decide) fun hle => h (BitVec.le_def.mpr hle)

/-- R84: on every 7-bit pattern, a mnemonic's code or not, the gates compute the comparison. -/
theorem classBitGates_eq_true_iff : ∀ {c : MnemonicCode}, classBitGates c = true ↔ 56 ≤ c.toNat := by decide

/-- R84: the undocumented mnemonics are those with the codes from 56 upwards. -/
theorem classify_eq_nmos_iff_le_code {m : Mnemonic} : classify m = .NMOS ↔ 56 ≤ m.code.toNat := by
  rw [← InstructionSet.code_inj, ← classBit_code, classBit_eq_code_nmos_iff]

/-- Settles O7: the class bit of a mnemonic's code is the code of its class, and comparison and gates agree on every
7-bit pattern. -/
theorem classIsOneComparison : Obligations.ClassIsOneComparison := by
  unfold Obligations.ClassIsOneComparison
  exact fun m => ⟨(classBit_code m).symm, classify_eq_nmos_iff_le_code,
    classBitGates_eq_true_iff.trans classify_eq_nmos_iff_le_code.symm⟩

/-- Settles O10: the 13 cases are those of the definition; a mode's code is read back, and no mode has a code from 13
upwards. -/
theorem instructionLengthByMode : Obligations.InstructionLengthByMode := by
  unfold Obligations.InstructionLengthByMode
  exact ⟨rfl, rfl, rfl, rfl, rfl, rfl, rfl, rfl, rfl, rfl, rfl, rfl, rfl, lengthOfModeCode_code,
    fun c => AddressingMode.ofCode_eq_none_iff.mpr⟩

/-- Settles O11: the 20 names are the model's list of undocumented mnemonics. -/
theorem classifyListsTwentyMnemonics : Obligations.ClassifyListsTwentyMnemonics := by
  unfold Obligations.ClassifyListsTwentyMnemonics
  exact fun m => ⟨classify_eq_nmos_iff_mem.mpr, classify_eq_standard_iff_not_mem.mpr⟩

end Sys2Proof.Machine
end

section
/-! The statements of family 41_as_instruction: the four steps of unit DEC, which requested set decodes a byte, and the
decodes that look like the sentinel. -/

namespace Sys2Proof.Machine

/-- R94: a byte is decodable exactly under the class of its mnemonic. -/
theorem decodable_iff {b : Byte} {x : InstructionSet} : decodable b x = true ↔ classify (table b).mnemonic = x :=
  beq_iff_eq

theorem InstructionSet.ne_other (x : InstructionSet) : x ≠ x.other := by cases x <;> decide

/-- R91, R93: under `STANDARD` a real decode and the sentinel are both `STANDARD`. -/
theorem asInstructionWith_standard_instructionSet (tbl : Byte → Entry) (so : Byte → Byte) (b : Byte) :
    (asInstructionWith tbl so b .STANDARD).instructionSet = .STANDARD := by
  obtain h | h := asInstructionWith_requested_or_sentinel tbl so b .STANDARD
  · exact h
  · rw [h]; rfl

/-- R95: the answer to an `NMOS` request says whether it is a real decode. -/
theorem asInstructionWith_nmos_instructionSet_iff (tbl : Byte → Entry) (so : Byte → Byte) (b : Byte) :
    (asInstructionWith tbl so b .NMOS).instructionSet = .NMOS ↔ classify (tbl b).mnemonic = .NMOS := by
  by_cases h : classify (tbl b).mnemonic = .NMOS
  · rw [asInstructionWith_decoded h]; exact Iff.rfl
  · rw [asInstructionWith_sentinel h]; exact iff_of_false (by decide : InstructionSet.STANDARD ≠ .NMOS) h

/-- R93, R96: a real decode agrees with the sentinel outside `opcode` exactly for the entry of an implied no-operation
of base cost 2, since the mode gives the length and the mnemonic the class. -/
theorem decodedDescriptor_eq_sentinelWith_apart_from_opcode {so : Byte → Byte} {b o : Byte} {e : Entry} :
    { decodedDescriptor b e with opcode := o } = { sentinelWith so b with opcode := o } ↔
      e = ⟨.NOP, .Implied, 2⟩ := by
  constructor
  · intro h
    have hmnemonic : e.mnemonic = .NOP := congrArg Descriptor.mnemonic h
    have hmode : e.mode = .Implied := congrArg Descriptor.mode h
    have hbase : e.baseCycles = 2 := (zext64_eq_ofNat_iff (by decide)).mp (congrArg Descriptor.cycles h)
    rw [← hmnemonic, ← hmode, ← hbase]
  · rintro rfl
    rfl

/-- R58 at the entry of an implied no-operation: 0xEA and the six undocumented bytes (D1, D2; log entry 2). -/
theorem table_eq_impliedNop_iff (b : Byte) :
    table b = ⟨.NOP, .Implied, 2⟩ ↔ b ∈ [(0xEA : Byte), 0x1A, 0x3A, 0x5A, 0x7A, 0xDA, 0xFA] :=
  forall_byte (P := fun b => table b = ⟨.NOP, .Implied, 2⟩ ↔ b ∈ [(0xEA : Byte), 0x1A, 0x3A, 0x5A, 0x7A, 0xDA, 0xFA])
    (by decide +kernel) b

/-- Settles O15: a decode looks like the sentinel when its entry is the implied no-operation, whose class is
`STANDARD`; seven bytes have that entry. -/
theorem impliedNopsLookLikeTheSentinel : Obligations.ImpliedNopsLookLikeTheSentinel := by
  unfold Obligations.ImpliedNopsLookLikeTheSentinel
  intro b x hdecodable
  have hclass := decodable_iff.mp hdecodable
  have hstandard (he : table b = ⟨.NOP, .Implied, 2⟩) : x = .STANDARD := by
    rw [← hclass, he]; exact classify_NOP
  rw [asInstruction_decoded hclass, ← table_eq_impliedNop_iff]
  exact decodedDescriptor_eq_sentinelWith_apart_from_opcode.trans ⟨fun he => ⟨hstandard he, he⟩, And.right⟩

/-- Settles O12: the two branches of R91, with the real decode and the sentinel written out. -/
theorem asInstructionFollowsItsSteps : Obligations.AsInstructionFollowsItsSteps := by
  unfold Obligations.AsInstructionFollowsItsSteps
  exact ⟨fun tbl so b x => ⟨asInstructionWith_decoded, asInstructionWith_sentinel⟩, fun b x => rfl⟩

/-- Settles O13: of the two requests one is for the byte's own class, and `instruction_set` tells which. -/
theorem exactlyOneSetDecodes : Obligations.ExactlyOneSetDecodes := by
  unfold Obligations.ExactlyOneSetDecodes
  intro tbl so b
  exact ⟨asInstructionWith_decoded rfl, asInstructionWith_sentinel (InstructionSet.ne_other _),
    asInstructionWith_nmos_instructionSet_iff tbl so b, asInstructionWith_standard_instructionSet tbl so b⟩

/-- Settles O16: a byte that is not decoded under `NMOS` is decoded under `STANDARD`. -/
theorem nmosFirstDecodesEveryByte : Obligations.NmosFirstDecodesEveryByte := by
  unfold Obligations.NmosFirstDecodesEveryByte
  intro b
  have hset := asInstructionWith_nmos_instructionSet_iff table Config.sentinelOpcode b
  by_cases h : classify (table b).mnemonic = .NMOS
  · exact (if_pos (hset.mpr h)).trans (asInstruction_decoded h)
  · exact (if_neg (mt hset.mp h)).trans (asInstruction_decoded ((InstructionSet.ne_iff_eq_other _ _).mp h))

end Sys2Proof.Machine
end

section
/-! The calculator's result by penalty class and as a number (R101, R105, R107), and the base cycles that unit DEC gives
in each class. -/

namespace Sys2Proof.Machine

open Sys2Proof.Rules

variable {m : Mnemonic} {a : AddressingMode} {c : Cycles} {r : PageBoundary} {d : Descriptor}

/-- The branch mnemonics the statements list are those of the calculator. -/
theorem branches_eq_branchMnemonics : branches = branchMnemonics := rfl

/-- The read mnemonics the statements list are those of the calculator. -/
theorem penalisedReads_eq_penaltyMnemonics : penalisedReads = penaltyMnemonics := rfl

/-- The modes the statements list are those of the calculator. -/
theorem penalisedModes_eq_penaltyModes : penalisedModes = penaltyModes := rfl

theorem cyclesWithPenalty_eq_add (d : Descriptor) (r : PageBoundary) :
    cyclesWithPenalty d r = d.cycles + penaltyOf (penaltyClass d.mnemonic d.mode) r := rfl

/-- R102: a branch mnemonic takes the branch penalty, whatever the mode. -/
theorem penaltyResult_branch (h : m ∈ branchMnemonics) : penaltyResult m a c r = c + penaltyOf .BRANCH r := by
  rw [penaltyResult, penaltyClass_branch h]

/-- R103: with both conditions met the read takes the indexed-read penalty. -/
theorem penaltyResult_indexed (h : m ∈ penaltyMnemonics) (ha : a ∈ penaltyModes) :
    penaltyResult m a c r = c + penaltyOf .INDEXED_READ r := by
  rw [penaltyResult, penaltyClass_indexed h ha]

/-- R103, R104: outside the two penalised classes the result is the base cost. -/
theorem penaltyResult_none (h : m ∉ branchMnemonics) (h2 : ¬ (m ∈ penaltyMnemonics ∧ a ∈ penaltyModes)) :
    penaltyResult m a c r = c := by
  rw [penaltyResult, penaltyClass_none h h2, penaltyOf_none, add_zero]

/-- R102: a branch always costs more than its base, so the calculator never gives the cost not taken (R225). -/
theorem penaltyOf_branch_ne_zero (r : PageBoundary) : penaltyOf .BRANCH r ≠ 0 := by cases r <;> decide

/-- R105: the penalties are 0, 1 and 2. -/
theorem penaltyOf_mem (k : PenaltyClass) (r : PageBoundary) : penaltyOf k r ∈ [(0 : Cycles), 1, 2] := by
  cases k <;> cases r <;> decide

/-- R105, read along a row of the table of penalties. -/
theorem penaltyOf_crossed_sub_same (k : PenaltyClass) :
    penaltyOf k .CROSSED - penaltyOf k .SAME = if k = .NONE then 0 else 1 := by cases k <;> decide

theorem penaltyOf_toNat_le_two (k : PenaltyClass) (r : PageBoundary) : (penaltyOf k r).toNat ≤ 2 := by
  cases k <;> cases r <;> decide

/-- R107: the sum as a number. -/
theorem cyclesWithPenalty_toNat (d : Descriptor) (r : PageBoundary) :
    (cyclesWithPenalty d r).toNat =
      (d.cycles.toNat + (penaltyOf (penaltyClass d.mnemonic d.mode) r).toNat) % 2 ^ 64 :=
  BitVec.toNat_add _ _

/-- R107: up to `2^64 - 3` cycles the sum does not wrap, since no penalty exceeds 2 (D11). -/
theorem cyclesWithPenalty_toNat_of_le (h : d.cycles.toNat ≤ 2 ^ 64 - 3) :
    (cyclesWithPenalty d r).toNat =
      d.cycles.toNat + (penaltyOf (penaltyClass d.mnemonic d.mode) r).toNat := by
  have hpen := penaltyOf_toNat_le_two (penaltyClass d.mnemonic d.mode) r
  rw [cyclesWithPenalty_toNat, Nat.mod_eq_of_lt (by omega)]

/-- The largest base cost of a table entry in each penalty class (D1, D3; log entry 2). -/
def maxBaseCycles : PenaltyClass → Nat
  | .BRANCH       => 2
  | .INDEXED_READ => 5
  | .NONE         => 8

/-- R107: the largest cost of a table entry in each penalty class, under either relation. -/
def maxCost : PenaltyClass → Nat
  | .BRANCH       => 4
  | .INDEXED_READ => 6
  | .NONE         => 8

theorem maxBaseCycles_add_penaltyOf_le (k : PenaltyClass) (r : PageBoundary) :
    maxBaseCycles k + (penaltyOf k r).toNat ≤ maxCost k := by cases k <;> cases r <;> decide

theorem maxCost_le_eight (k : PenaltyClass) : maxCost k ≤ 8 := by cases k <;> decide

theorem table_baseCycles_le (b : Byte) :
    (table b).baseCycles.toNat ≤ maxBaseCycles (penaltyClass (table b).mnemonic (table b).mode) :=
  forall_byte
    (P := fun b => (table b).baseCycles.toNat ≤ maxBaseCycles (penaltyClass (table b).mnemonic (table b).mode))
    (by decide +kernel) b

/-- D1: the branches stand at the Relative entries, and cost 2 not taken. -/
theorem table_branch (b : Byte) :
    ((table b).mnemonic ∈ branchMnemonics ↔ (table b).mode = .Relative) ∧
    ((table b).mnemonic ∈ branchMnemonics → (table b).baseCycles = 2) :=
  forall_byte
    (P := fun b => ((table b).mnemonic ∈ branchMnemonics ↔ (table b).mode = .Relative) ∧
      ((table b).mnemonic ∈ branchMnemonics → (table b).baseCycles = 2))
    (by decide +kernel) b

/-- Every branch mnemonic is official (R83). -/
theorem classify_branch (h : m ∈ branchMnemonics) : classify m = .STANDARD :=
  (by decide : ∀ m ∈ branchMnemonics, classify m = .STANDARD) m h

/-- R225: a branch of the table costs 2 and the branch penalty. -/
theorem cyclesWithPenalty_branch_decode {b : Byte} (h : (table b).mnemonic ∈ branchMnemonics) (r : PageBoundary) :
    cyclesWithPenalty (asInstruction b .STANDARD) r = 2 + penaltyOf .BRANCH r := by
  have hbase : zext64 (table b).baseCycles = 2 := by rw [(table_branch b).2 h]; rfl
  rw [asInstruction_decoded (classify_branch h), ← hbase]
  exact penaltyResult_branch h

/-- Unit DEC's cycles are within the class of its own descriptor, the sentinel's included. -/
theorem asInstruction_cycles_le (b : Byte) (x : InstructionSet) :
    (asInstruction b x).cycles.toNat ≤
      maxBaseCycles (penaltyClass (asInstruction b x).mnemonic (asInstruction b x).mode) := by
  by_cases h : classify (table b).mnemonic = x
  · rw [asInstruction_decoded h]
    exact (zext64_toNat _).trans_le (table_baseCycles_le b)
  · rw [asInstruction_sentinel h]
    exact (by decide : 2 ≤ maxBaseCycles (penaltyClass .NOP .Implied))

/-- Unit DEC answers `JAM` exactly for a `JAM` byte under the set `JAM` is of. -/
theorem asInstruction_mnemonic_eq_jam_iff (b : Byte) (x : InstructionSet) :
    (asInstruction b x).mnemonic = .JAM ↔ x = .NMOS ∧ (table b).mnemonic = .JAM := by
  have hclass : classify .JAM = .NMOS := by decide
  by_cases h : classify (table b).mnemonic = x
  · rw [asInstruction_decoded h]
    exact ⟨fun hjam : (table b).mnemonic = .JAM => ⟨by rw [← h, hjam, hclass], hjam⟩, And.right⟩
  · rw [asInstruction_sentinel h]
    refine iff_of_false (by decide : Mnemonic.NOP ≠ .JAM) fun ⟨hx, hjam⟩ => h ?_
    rw [hjam, hx, hclass]

/-- A descriptor that R63(d) holds of costs nothing exactly when its mnemonic is `JAM`, which has no penalty. -/
theorem cyclesWithPenalty_eq_zero_iff (h : d.wellFormed = true) :
    cyclesWithPenalty d r = 0 ↔ d.mnemonic = .JAM := by
  obtain ⟨_, hle, hzero⟩ := Descriptor.cycles_of_wellFormed h
  constructor
  · intro hcost
    have hsum : d.cycles.toNat + (penaltyOf (penaltyClass d.mnemonic d.mode) r).toNat = 0 :=
      (cyclesWithPenalty_toNat_of_le (by omega)).symm.trans (congrArg BitVec.toNat hcost)
    exact hzero.mp (BitVec.eq_of_toNat_eq (Nat.eq_zero_of_add_eq_zero_right hsum))
  · intro hjam
    have hnone : penaltyResult .JAM d.mode d.cycles r = d.cycles :=
      penaltyResult_none (by decide) fun ⟨hread, _⟩ => absurd hread (by decide)
    rw [cyclesWithPenalty, hjam, hnone, hzero.mpr hjam]

/-- R19: where codes of values stand at PEN's inputs, settling it drives the calculator's result. -/
theorem State.settlePen_of_codes {s : State} (hm : s.penMnemonic = m.code) (ha : s.penMode = a.code) :
    s.settlePen = s.drivePen (penaltyResult m a s.penCycles s.penPageRelation) := by
  rw [settlePen, hm, ha, penOutput_code]

end Sys2Proof.Machine
end

section
/-! The statements of family 42_cycles_with_penalty: the penalty by class and page relation, the calculator's result,
its bounds on unit DEC's descriptors, and a PEN query. -/

namespace Sys2Proof.Machine

/-- Settles O18: the three cases are those of `penaltyClass`. -/
theorem penaltyByClassAndRelation : Obligations.PenaltyByClassAndRelation := by
  unfold Obligations.PenaltyByClassAndRelation
  rw [branches_eq_branchMnemonics, penalisedReads_eq_penaltyMnemonics, penalisedModes_eq_penaltyModes]
  refine fun m a => ⟨fun h => ?_, fun _ ⟨hm, ha⟩ => ?_, fun h h2 => ?_⟩
  · rw [penaltyClass_branch h]; exact ⟨rfl, penaltyOf_branch_same, penaltyOf_branch_crossed⟩
  · rw [penaltyClass_indexed hm ha]; exact ⟨rfl, penaltyOf_indexed_same, penaltyOf_indexed_crossed⟩
  · rw [penaltyClass_none h h2]; exact ⟨rfl, penaltyOf_none _, penaltyOf_none _⟩

/-- Settles O19: the class of a branch mnemonic is found before the mode is looked at; the table's branches cost 2. -/
theorem branchPenaltyLooksAtTheMnemonicOnly : Obligations.BranchPenaltyLooksAtTheMnemonicOnly := by
  unfold Obligations.BranchPenaltyLooksAtTheMnemonicOnly
  rw [branches_eq_branchMnemonics]
  refine ⟨fun m a c h => ⟨penaltyResult_branch h, penaltyResult_branch h, fun r => ?_⟩,
    fun b => (table_branch b).1,
    fun b h => ⟨(table_branch b).2 h, cyclesWithPenalty_branch_decode h .SAME,
      cyclesWithPenalty_branch_decode h .CROSSED⟩⟩
  rw [penaltyResult_branch h]
  exact mt add_eq_left.mp (penaltyOf_branch_ne_zero r)

/-- Settles O20: the table's entries of the class one by one, and the two conditions of R103. -/
theorem indexedReadPenaltyNeedsBothConditions : Obligations.IndexedReadPenaltyNeedsBothConditions := by
  unfold Obligations.IndexedReadPenaltyNeedsBothConditions
  rw [penalisedReads_eq_penaltyMnemonics, penalisedModes_eq_penaltyModes]
  refine ⟨forall_byte (by decide +kernel), fun m a c r hm ha => ?_, fun m a c hm ha => ⟨?_, ?_⟩⟩
  · exact penaltyResult_none (not_branch_of_penalised hm) fun ⟨_, ha'⟩ => ha ha'
  · rw [penaltyResult_indexed hm ha, penaltyOf_indexed_same, add_zero]
  · rw [penaltyResult_indexed hm ha, penaltyOf_indexed_crossed]

/-- Settles O21: no mnemonic R104 lists is in either of the calculator's lists. -/
theorem unlistedMnemonicsCostTheirBase : Obligations.UnlistedMnemonicsCostTheirBase := by
  unfold Obligations.UnlistedMnemonicsCostTheirBase
  rw [branches_eq_branchMnemonics, penalisedReads_eq_penaltyMnemonics]
  intro m a c r h
  have hunlisted : m ∉ branchMnemonics ∧ m ∉ penaltyMnemonics :=
    h.elim ((by decide : ∀ m ∈ _, m ∉ branchMnemonics ∧ m ∉ penaltyMnemonics) m) id
  obtain ⟨hbranch, hread⟩ := hunlisted
  exact penaltyResult_none hbranch fun ⟨hm, _⟩ => hread hm

/-- Settles O22: the base cost cancels, which leaves penalties alone. -/
theorem crossingCostsAtMostOneMore : Obligations.CrossingCostsAtMostOneMore := by
  unfold Obligations.CrossingCostsAtMostOneMore
  simp only [cyclesWithPenalty_eq_add]
  refine fun d => ⟨?_, fun r => ?_⟩
  · rw [add_sub_add_left_eq_sub, penaltyOf_crossed_sub_same]
  · rw [add_sub_cancel_left]; exact penaltyOf_mem _ r

/-- Settles O23: the table's largest base cost in each class, with that class's penalty. -/
theorem costOfADecodeIsBounded : Obligations.CostOfADecodeIsBounded := by
  unfold Obligations.CostOfADecodeIsBounded
  intro b x r d
  have hwf : d.wellFormed = true := asInstruction_wellFormed b x
  obtain ⟨_, hle, _⟩ := Descriptor.cycles_of_wellFormed hwf
  have hsum := cyclesWithPenalty_toNat_of_le (d := d) (r := r) (by omega)
  have hcost : (cyclesWithPenalty d r).toNat ≤ maxCost (penaltyClass d.mnemonic d.mode) := calc
    _ = d.cycles.toNat + (penaltyOf (penaltyClass d.mnemonic d.mode) r).toNat := hsum
    _ ≤ maxBaseCycles (penaltyClass d.mnemonic d.mode) + (penaltyOf (penaltyClass d.mnemonic d.mode) r).toNat :=
      Nat.add_le_add_right (asInstruction_cycles_le b x) _
    _ ≤ maxCost (penaltyClass d.mnemonic d.mode) := maxBaseCycles_add_penaltyOf_le _ r
  refine ⟨hsum, hcost.trans (maxCost_le_eight _), fun hk => ?_, fun hk => ?_,
    (cyclesWithPenalty_eq_zero_iff hwf).trans (asInstruction_mnemonic_eq_jam_iff b x)⟩
  · rwa [hk] at hcost
  · rwa [hk] at hcost

/-- Settles O25: a 64-bit sum, which stays below the modulus up to `2^64 - 3` cycles. -/
theorem cycleSumWrapsModuloTwoTo64 : Obligations.CycleSumWrapsModuloTwoTo64 := by
  unfold Obligations.CycleSumWrapsModuloTwoTo64
  refine ⟨cyclesWithPenalty_toNat, fun d r h => ?_, by decide, by decide, by decide⟩
  rw [cyclesWithPenalty_toNat_of_le h]
  exact Nat.le_add_right _ _

/-- Settles O24: the sum names no other field. -/
theorem calculatorReadsThreeFields : Obligations.CalculatorReadsThreeFields := by
  unfold Obligations.CalculatorReadsThreeFields
  intro d e r hm ha hc
  rw [cyclesWithPenalty, cyclesWithPenalty, hm, ha, hc]

/-- Settles O48: a PEN query on codes of values settles both units. -/
theorem anyPresentedDescriptorIsCosted : Obligations.AnyPresentedDescriptorIsCosted := by
  unfold Obligations.AnyPresentedDescriptorIsCosted
  intro s m a hq hm ha d
  rw [step_cost hq, queryCost_next (Mnemonic.ofCode_eq_some_iff.mpr hm.symm)
    (AddressingMode.ofCode_eq_some_iff.mpr ha.symm), State.settlePen_of_codes (s := s.settleDec) hm ha]
  rfl

end Sys2Proof.Machine
end

section
/-! A rule of R120 to R195 from its columns: what of a rule's table the decode table and the functions of mode and
mnemonic decide, and that the rule's statement, every run of its instructions included, follows from it. -/

namespace Sys2Proof.Rules

open Sys2Proof.Machine

theorem mem_allBytes (b : Byte) : b ∈ allBytes :=
  List.mem_map.mpr ⟨b.toNat, List.mem_range.mpr b.isLt, by rw [BitVec.ofNat_toNat, BitVec.setWidth_eq]⟩

/-- The opcode bytes whose table entry has the mnemonic, in ascending order. -/
def opcodesOf (m : Mnemonic) : List Byte := allBytes.filter fun b => (table b).mnemonic == m

theorem mem_opcodesOf {m : Mnemonic} {b : Byte} : b ∈ opcodesOf m ↔ (table b).mnemonic = m := by
  rw [opcodesOf, List.mem_filter, beq_iff_eq]
  exact and_iff_right (mem_allBytes b)

/-- The columns of a row are those of the table's entry and of the functions of its mode and mnemonic. -/
abbrev RuleRow.ColumnsAgree (r : RuleRow) (ru : MnemonicRule) : Prop :=
  encodeByte r.instr = r.opcode ∧ table r.opcode = ⟨ru.mnemonic, r.mode, r.base⟩ ∧
  romWord (table r.opcode) = r.word ∧ instructionLength r.mode = r.length ∧
  officialOpcode r.opcode = r.official ∧ penaltyClass ru.mnemonic r.mode = r.cls ∧
  cyclesWithPenalty (r.descriptor ru) .SAME = r.same ∧ cyclesWithPenalty (r.descriptor ru) .CROSSED = r.crossed

/-- The rule has its mnemonic's code and class, and lists its mnemonic's opcodes with their columns. -/
abbrev MnemonicRule.Agrees (ru : MnemonicRule) : Prop :=
  ru.mnemonic.code = ru.code ∧ classify ru.mnemonic = ru.set ∧
  opcodesOf ru.mnemonic = ru.rows.map RuleRow.opcode ∧ ∀ r ∈ ru.rows, r.ColumnsAgree ru

/-- R20: where the host feeds PEN its result is the descriptor's cost under the page relation, and where it does not,
what PEN drives for the inputs it finds. -/
theorem evaluated_eq_answered {b : Byte} {s : State} {d : Descriptor} (hd : asInstruction b s.decRequestedSet = d) :
    evaluated b s = answered s b d (cyclesWithPenalty d .SAME) (cyclesWithPenalty d .CROSSED) := by
  by_cases hq : s.query = .decodeAndCost
  · rw [evaluated_fed hq, hd]
    cases hr : s.penPageRelation <;> simp [answered, hq, hr, State.driveDec, State.driveOpcode]
  · rw [evaluated_apart hq, hd]
    simp [answered, hq, State.drivePen, State.driveDec, State.driveOpcode]

/-- An instruction runs into the state that shows its byte's descriptor and that descriptor's costs. -/
theorem exec_eq_answered {i : Instr} {b : Byte} {s : State} {d : Descriptor} {same crossed : Cycles}
    (hi : encodeByte i = b) (hd : asInstruction b s.decRequestedSet = d)
    (hsame : cyclesWithPenalty d .SAME = same) (hcrossed : cyclesWithPenalty d .CROSSED = crossed) :
    exec i s = .next (answered s b d same crossed) := by
  rw [exec_eq_next, hi, evaluated_eq_answered hd, hsame, hcrossed]

/-- R93, R104: the sentinel's mnemonic takes no penalty. -/
theorem cyclesWithPenalty_sentinelOf (b : Byte) (r : PageBoundary) : cyclesWithPenalty (sentinelOf b) r = 2 :=
  penaltyResult_none (m := .NOP) (a := .Implied) (by decide) (by decide)

/-- R91, R92: the descriptor a rule gives is the one step 3 builds from the entry. -/
theorem decodedDescriptor_eq_descriptor {r : RuleRow} {ru : MnemonicRule}
    (htable : table r.opcode = ⟨ru.mnemonic, r.mode, r.base⟩) (hlength : instructionLength r.mode = r.length)
    (hset : classify ru.mnemonic = ru.set) : decodedDescriptor r.opcode (table r.opcode) = r.descriptor ru := by
  rw [htable, RuleRow.descriptor, ← hlength, ← hset]; rfl

/-- A row runs as its rule says: under its own set `as_instruction` builds the row's descriptor, under the other it
answers the sentinel, and the instruction is the evaluation of the row's byte. -/
theorem rowHolds_of_columnsAgree {ru : MnemonicRule} {r : RuleRow} (hset : classify ru.mnemonic = ru.set)
    (h : r.ColumnsAgree ru) : RowHolds ru r := by
  obtain ⟨hencode, htable, hword, hlength, hofficial, hcls, hsame, hcrossed⟩ := h
  have hclass : classify (table r.opcode).mnemonic = ru.set := by rw [htable]; exact hset
  have hdecode : decodeByte r.opcode = r.instr := by rw [← hencode, decodeByte_encodeByte]
  have hcount : r.instr.operandCount + 1 = r.length.toNat := by
    rw [operandCount_add_one, hencode, htable, hlength]
  have hown : asInstruction r.opcode ru.set = r.descriptor ru :=
    (asInstruction_decoded hclass).trans (decodedDescriptor_eq_descriptor htable hlength hset)
  have hother {x : InstructionSet} (hx : x ≠ ru.set) : asInstruction r.opcode x = sentinelOf r.opcode :=
    asInstruction_sentinel (hclass ▸ hx.symm)
  exact ⟨hdecode, hencode, htable, (romImage_eq_romWord _).trans hword, hword, hlength, Nat.eq_sub_of_add_eq hcount,
    hofficial, hcls, hown, hother (InstructionSet.ne_other _).symm, hsame, hcrossed,
    fun s hs => exec_eq_answered hencode (hs ▸ hown) hsame hcrossed,
    fun s hs => exec_eq_answered hencode (hother hs) (cyclesWithPenalty_sentinelOf _ _)
      (cyclesWithPenalty_sentinelOf _ _)⟩

theorem ruleHolds_of_agrees {ru : MnemonicRule} (h : ru.Agrees) : RuleHolds ru := by
  obtain ⟨hcode, hset, hopcodes, hrows⟩ := h
  refine ⟨hcode, hset, fun b => ?_, fun r hr => rowHolds_of_columnsAgree hset (hrows r hr)⟩
  rw [← hopcodes, mem_opcodesOf]

end Sys2Proof.Rules
end

section
/-! The statements of family 43_table_load_store_transfer: each group's rules agree with the decode table, column by
column in the kernel, and so run. -/

namespace Sys2Proof.Machine

open Sys2Proof.Rules

theorem loadRules_agree : ∀ ru ∈ [ruleLDA, ruleLDX, ruleLDY], ru.Agrees := by decide +kernel

theorem storeRules_agree : ∀ ru ∈ [ruleSTA, ruleSTX, ruleSTY], ru.Agrees := by decide +kernel

theorem transferRules_agree : ∀ ru ∈ [ruleTAX, ruleTAY, ruleTSX, ruleTXA, ruleTXS, ruleTYA], ru.Agrees := by
  decide +kernel

/-- Settles O28: the 18 rows of LDA, LDX and LDY are the table's, and a rule that agrees with the table holds. -/
theorem loadsRunAsTheirRules : Obligations.LoadsRunAsTheirRules := by
  unfold Obligations.LoadsRunAsTheirRules
  exact fun ru hru => ruleHolds_of_agrees (loadRules_agree ru hru)

/-- Settles O29: the 13 rows of STA, STX and STY are the table's; no store takes a penalty in its costs. -/
theorem storesRunAsTheirRules : Obligations.StoresRunAsTheirRules := by
  unfold Obligations.StoresRunAsTheirRules
  exact fun ru hru => ruleHolds_of_agrees (storeRules_agree ru hru)

/-- Settles O30: the six implied rows of the transfers are the table's, one for each mnemonic. -/
theorem transfersRunAsTheirRules : Obligations.TransfersRunAsTheirRules := by
  unfold Obligations.TransfersRunAsTheirRules
  exact fun ru hru => ruleHolds_of_agrees (transferRules_agree ru hru)

end Sys2Proof.Machine
end

section
/-! The statements of family 44_table_arith_logic_shift: each group's rules agree with the decode table, column by column
in the kernel, and so run. -/

namespace Sys2Proof.Machine

open Sys2Proof.Rules

theorem arithmeticAndLogicRules_agree : ∀ ru ∈ [ruleADC, ruleSBC, ruleAND, ruleORA, ruleEOR], ru.Agrees := by
  decide +kernel

theorem compareRules_agree : ∀ ru ∈ [ruleCMP, ruleCPX, ruleCPY, ruleBIT], ru.Agrees := by decide +kernel

theorem incrementAndDecrementRules_agree :
    ∀ ru ∈ [ruleINC, ruleINX, ruleINY, ruleDEC, ruleDEX, ruleDEY], ru.Agrees := by decide +kernel

theorem shiftRules_agree : ∀ ru ∈ [ruleASL, ruleLSR, ruleROL, ruleROR], ru.Agrees := by decide +kernel

/-- Settles O31: the 41 rows of ADC, SBC, AND, ORA and EOR are the table's, among them the undocumented 0xEB, whose
class is `STANDARD` since its mnemonic's is. -/
theorem arithmeticAndLogicRunAsTheirRules : Obligations.ArithmeticAndLogicRunAsTheirRules := by
  unfold Obligations.ArithmeticAndLogicRunAsTheirRules
  exact fun ru hru => ruleHolds_of_agrees (arithmeticAndLogicRules_agree ru hru)

/-- Settles O32: the 16 rows of CMP, CPX, CPY and BIT are the table's; of the four only CMP takes the indexed-read
penalty. -/
theorem comparesRunAsTheirRules : Obligations.ComparesRunAsTheirRules := by
  unfold Obligations.ComparesRunAsTheirRules
  exact fun ru hru => ruleHolds_of_agrees (compareRules_agree ru hru)

/-- Settles O33: the 12 rows of the increments and decrements are the table's; none takes a penalty in its costs. -/
theorem incrementsAndDecrementsRunAsTheirRules : Obligations.IncrementsAndDecrementsRunAsTheirRules := by
  unfold Obligations.IncrementsAndDecrementsRunAsTheirRules
  exact fun ru hru => ruleHolds_of_agrees (incrementAndDecrementRules_agree ru hru)

/-- Settles O34: the 20 rows of ASL, LSR, ROL and ROR are the table's; no shift takes a penalty in its costs, in the
mode AbsoluteX either. -/
theorem shiftsRunAsTheirRules : Obligations.ShiftsRunAsTheirRules := by
  unfold Obligations.ShiftsRunAsTheirRules
  exact fun ru hru => ruleHolds_of_agrees (shiftRules_agree ru hru)

end Sys2Proof.Machine
end

section
/-! The statements of family 45_table_control_flow: each group's rules agree with the decode table, column by column in
the kernel, and so run; the table's one indirect entry and its dearest official one. -/

namespace Sys2Proof.Machine

open Sys2Proof.Rules

theorem branchRules_agree :
    ∀ ru ∈ [ruleBCC, ruleBCS, ruleBEQ, ruleBMI, ruleBNE, ruleBPL, ruleBVC, ruleBVS], ru.Agrees := by decide +kernel

theorem jumpReturnAndBreakRules_agree : ∀ ru ∈ [ruleJMP, ruleJSR, ruleRTS, ruleRTI, ruleBRK], ru.Agrees := by
  decide +kernel

/-- R159: the mode Indirect is that of 0x6C alone, the indirect JMP. -/
theorem table_mode_eq_indirect_iff (b : Byte) : (table b).mode = .Indirect ↔ b = 0x6C :=
  forall_byte (P := fun b => (table b).mode = .Indirect ↔ b = 0x6C) (by decide +kernel) b

/-- R163: the dearest official entry is BRK's. -/
theorem table_baseCycles_le_seven_of_official {b : Byte} (h : officialOpcode b = true) : (table b).baseCycles ≤ 7 :=
  forall_byte (P := fun b => officialOpcode b = true → (table b).baseCycles ≤ 7) (by decide +kernel) b h

/-- Settles O35: the eight rows of the branches are the table's, one for each mnemonic; each costs its base 2 and the
branch penalty, 3 or 4. -/
theorem branchesRunAsTheirRules : Obligations.BranchesRunAsTheirRules := by
  unfold Obligations.BranchesRunAsTheirRules
  exact fun ru hru => ruleHolds_of_agrees (branchRules_agree ru hru)

/-- Settles O36: the six rows of JMP, JSR, RTS, RTI and BRK are the table's, none with a penalty in its costs; the two
facts about the whole table are read off its 256 entries. -/
theorem jumpsReturnsAndBreakRunAsTheirRules : Obligations.JumpsReturnsAndBreakRunAsTheirRules := by
  unfold Obligations.JumpsReturnsAndBreakRunAsTheirRules
  exact ⟨fun ru hru => ruleHolds_of_agrees (jumpReturnAndBreakRules_agree ru hru),
    table_mode_eq_indirect_iff, fun _ => table_baseCycles_le_seven_of_official⟩

end Sys2Proof.Machine
end

section
/-! The statements of family 46_table_stack_flags_nop: each group's rules agree with the decode table, column by column in
the kernel, and so run; the entry of NOP's implied bytes is the one the sentinel describes. -/

namespace Sys2Proof.Machine

open Sys2Proof.Rules

theorem stackRules_agree : ∀ ru ∈ [rulePHA, rulePHP, rulePLA, rulePLP], ru.Agrees := by decide +kernel

theorem flagRules_agree :
    ∀ ru ∈ [ruleCLC, ruleCLD, ruleCLI, ruleCLV, ruleSEC, ruleSED, ruleSEI], ru.Agrees := by decide +kernel

theorem nopRule_agrees : ruleNOP.Agrees := by decide +kernel

/-- R175: every implied NOP has the base cost 2. -/
theorem table_eq_impliedNop {b : Byte} (hm : (table b).mnemonic = .NOP) (ha : (table b).mode = .Implied) :
    table b = ⟨.NOP, .Implied, 2⟩ :=
  forall_byte
    (P := fun b => (table b).mnemonic = .NOP → (table b).mode = .Implied → table b = ⟨.NOP, .Implied, 2⟩)
    (by decide +kernel) b hm ha

/-- Settles O37: the four implied rows of PHA, PHP, PLA and PLP are the table's, the pushes at 3 cycles and the pulls
at 4. -/
theorem stackInstructionsRunAsTheirRules : Obligations.StackInstructionsRunAsTheirRules := by
  unfold Obligations.StackInstructionsRunAsTheirRules
  exact fun ru hru => ruleHolds_of_agrees (stackRules_agree ru hru)

/-- Settles O38: the seven implied rows of the flag instructions are the table's, one for each mnemonic, each at 2
cycles. -/
theorem flagInstructionsRunAsTheirRules : Obligations.FlagInstructionsRunAsTheirRules := by
  unfold Obligations.FlagInstructionsRunAsTheirRules
  exact fun ru hru => ruleHolds_of_agrees (flagRules_agree ru hru)

/-- Settles O39: the 28 rows of NOP are the table's, none with a penalty in its costs, in the mode AbsoluteX either; an
implied NOP is decoded under `STANDARD` from an entry that gives the sentinel's fields. -/
theorem noOperationsRunAsTheirRule : Obligations.NoOperationsRunAsTheirRule := by
  unfold Obligations.NoOperationsRunAsTheirRule
  refine ⟨ruleHolds_of_agrees nopRule_agrees, fun b hm ha => ?_⟩
  have hset : classify (table b).mnemonic = .STANDARD := by rw [hm, classify_NOP]
  rw [asInstruction_decoded hset]
  exact (decodedDescriptor_eq_sentinelWith_apart_from_opcode (so := Config.sentinelOpcode)).mpr
    (table_eq_impliedNop hm ha)

end Sys2Proof.Machine
end

section
/-! What an instruction leaves to the next opcode query: everything that the query reads. -/

namespace Sys2Proof.Machine

/-- Where the host feeds PEN, an evaluation reads the requested set and the page relation alone. -/
theorem evaluated_congr_of_fed {s t : State} (b : Byte) (hs : s.query = .decodeAndCost)
    (ht : t.query = .decodeAndCost) (hset : s.decRequestedSet = t.decRequestedSet)
    (hr : s.penPageRelation = t.penPageRelation) : evaluated b s = evaluated b t := by
  rw [evaluated_fed hs, evaluated_fed ht]
  simp [State.driveDec, State.driveOpcode, *]

/-- R11, R17: an opcode query answers the same state whether or not another opcode was evaluated before it: the next
query either feeds PEN anew or finds the inputs of PEN as they were. -/
theorem evaluated_presentOpcode_evaluated (b c : Byte) (s : State) :
    evaluated b ((evaluated c s).presentOpcode b) = evaluated b (s.presentOpcode b) := by
  have hquery : ((evaluated c s).presentOpcode b).query = (s.presentOpcode b).query := by simp
  by_cases hq : (s.presentOpcode b).query = .decodeAndCost
  · exact evaluated_congr_of_fed b (hquery.trans hq) hq (by simp) (by simp)
  · have hs : s.query ≠ .decodeAndCost := fun hs => hq (by simp [hs, Query.presenting])
    obtain ⟨hm, ha, hc⟩ := evaluated_penInputsKept c hs
    exact evaluated_congr b ⟨rfl, evaluated_decRequestedSet c s, hm, ha, hc, evaluated_penPageRelation c s, hquery⟩

/-- R203, R228: no instruction, `JAM` included, changes what the next opcode query answers. -/
theorem step_presentOpcode_of_exec {i : Instr} {s t : State} (h : exec i s = .next t) (b : Byte) :
    step (t.presentOpcode b) = step (s.presentOpcode b) := by
  rw [← exec_eq_next_iff.mp h, step_presentOpcode, step_presentOpcode, exec_eq_next, exec_eq_next,
    encodeByte_decodeByte, evaluated_presentOpcode_evaluated]

end Sys2Proof.Machine
end

section
/-! The statements of family 47_table_nmos_undocumented: each group's rules agree with the decode table, column by column
in the kernel, and so run; the table's largest base cost; and the next query after a `JAM`. -/

namespace Sys2Proof.Machine

open Sys2Proof.Rules

theorem undocumentedImmediateRules_agree :
    ∀ ru ∈ [ruleALR, ruleANC, ruleANE, ruleARR, ruleLXA, ruleSBX], ru.Agrees := by decide +kernel

theorem undocumentedReadModifyWriteRules_agree :
    ∀ ru ∈ [ruleDCP, ruleISC, ruleRLA, ruleRRA, ruleSLO, ruleSRE], ru.Agrees := by decide +kernel

theorem jamRule_agrees : ruleJAM.Agrees := by decide +kernel

theorem undocumentedLoadRules_agree : ∀ ru ∈ [ruleLAS, ruleLAX], ru.Agrees := by decide +kernel

theorem undocumentedStoreRules_agree : ∀ ru ∈ [ruleSAX, ruleSHA, ruleSHX, ruleSHY, ruleTAS], ru.Agrees := by
  decide +kernel

/-- R63(d): no base cost is above 8. -/
theorem table_baseCycles_le_eight (b : Byte) : (table b).baseCycles ≤ 8 := by
  have hwf : (table b).wellFormed = true := table_wellFormed b
  simp only [Entry.wellFormed, Bool.and_eq_true, decide_eq_true_eq] at hwf
  obtain ⟨⟨_, hle⟩, _⟩ := hwf
  exact hle

/-- R180, R181, R186, R187, R193, R194: the base cost 8 is that of the undocumented read-modify-writes through a
pointer. -/
theorem table_baseCycles_eq_eight_iff (b : Byte) :
    (table b).baseCycles = 8 ↔
      (table b).mnemonic ∈ [Mnemonic.DCP, .ISC, .RLA, .RRA, .SLO, .SRE] ∧
        (table b).mode ∈ [AddressingMode.IndirectX, .IndirectY] :=
  forall_byte
    (P := fun b => (table b).baseCycles = 8 ↔
      (table b).mnemonic ∈ [Mnemonic.DCP, .ISC, .RLA, .RRA, .SLO, .SRE] ∧
        (table b).mode ∈ [AddressingMode.IndirectX, .IndirectY])
    (by decide +kernel) b

/-- Settles O40: the seven rows of ALR, ANC, ANE, ARR, LXA and SBX are the table's, all immediate and at 2 cycles. -/
theorem undocumentedImmediatesRunAsTheirRules : Obligations.UndocumentedImmediatesRunAsTheirRules := by
  unfold Obligations.UndocumentedImmediatesRunAsTheirRules
  exact fun ru hru => ruleHolds_of_agrees (undocumentedImmediateRules_agree ru hru)

/-- Settles O41: the 42 rows of DCP, ISC, RLA, RRA, SLO and SRE are the table's, none with a penalty in its costs; that
8 bounds the base costs is the entries' well-formedness, and which entries reach it is read off all 256. -/
theorem undocumentedReadModifyWritesRunAsTheirRules : Obligations.UndocumentedReadModifyWritesRunAsTheirRules := by
  unfold Obligations.UndocumentedReadModifyWritesRunAsTheirRules
  exact ⟨fun ru hru => ruleHolds_of_agrees (undocumentedReadModifyWriteRules_agree ru hru),
    table_baseCycles_le_eight, table_baseCycles_eq_eight_iff⟩

/-- Settles O42: the 12 rows of JAM are the table's; the query after one steps into the very state it would have reached
without it, as after every instruction. -/
theorem jamRunsAsItsRuleAndHaltsNothing : Obligations.JamRunsAsItsRuleAndHaltsNothing := by
  unfold Obligations.JamRunsAsItsRuleAndHaltsNothing
  refine ⟨ruleHolds_of_agrees jamRule_agrees, fun r s t b _ hexec => ?_⟩
  have hstep : step (s.presentOpcode b) = .next (evaluated b (s.presentOpcode b)) :=
    step_eq_evaluated (Query.presenting_ne_cost s.query)
  exact ⟨_, _, (step_presentOpcode_of_exec hexec b).trans hstep, hstep, rfl, rfl⟩

/-- Settles O43: the seven rows of LAS and LAX are the table's; both take the indexed-read penalty. -/
theorem undocumentedLoadsRunAsTheirRules : Obligations.UndocumentedLoadsRunAsTheirRules := by
  unfold Obligations.UndocumentedLoadsRunAsTheirRules
  exact fun ru hru => ruleHolds_of_agrees (undocumentedLoadRules_agree ru hru)

/-- Settles O44: the nine rows of SAX, SHA, SHX, SHY and TAS are the table's, none with a penalty in its costs, in the
indexed modes either. -/
theorem undocumentedStoresRunAsTheirRules : Obligations.UndocumentedStoresRunAsTheirRules := by
  unfold Obligations.UndocumentedStoresRunAsTheirRules
  exact fun ru hru => ruleHolds_of_agrees (undocumentedStoreRules_agree ru hru)

end Sys2Proof.Machine
end

section
/-! The reference host of 95_test_vectors.md section 5: what one turn does, and where a walk ends (D22, log entry 17). -/

namespace Sys2Proof.Machine

/-- Under every policy the host uses the answer to one of its queries of unit DEC. -/
theorem walkQuery_eq_asInstruction (p : WalkPolicy) (b : Byte) : ∃ x, walkQuery p b = asInstruction b x := by
  cases p with
  | STANDARD => exact ⟨.STANDARD, rfl⟩
  | NMOS => exact ⟨.NMOS, rfl⟩
  | NMOS_FIRST =>
    by_cases h : (asInstruction b .NMOS).instructionSet = .NMOS
    · exact ⟨.NMOS, if_pos h⟩
    · exact ⟨.STANDARD, if_neg h⟩

/-- R81: the length the host moves on by is that of a mode, 1 to 3. -/
theorem walkQuery_length_bounds (p : WalkPolicy) (b : Byte) :
    0 < (walkQuery p b).length.toNat ∧ (walkQuery p b).length.toNat ≤ 3 := by
  obtain ⟨x, hquery⟩ := walkQuery_eq_asInstruction p b
  obtain ⟨hmode, _⟩ := asInstructionWith_length_and_set table Config.sentinelOpcode b x
  have hlength : (walkQuery p b).length = instructionLength (asInstruction b x).mode := by rw [hquery]; exact hmode
  refine ⟨?_, Nat.le_of_lt_succ (BitVec.isLt _)⟩
  rw [hlength]
  exact instructionLength_pos _

variable {p : WalkPolicy} {hints : List (Nat × PageBoundary)}

/-- Everything a turn can do: the instruction's bytes are all there, and the host moves over them, charges the cost and
writes one line. -/
theorem walkTurn_cases {n : Nat} {b : Byte} {w w' : WalkState} (h : walkTurn n p hints b w = some w') :
    let d := walkQuery p b
    let c := walkCost d (hints.lookup w.pos)
    w.pos + d.length.toNat ≤ n ∧
    w' = ⟨w.pos + d.length.toNat, w.total + c.toNat, w.trace ++ [⟨w.pos, d, hints.lookup w.pos, c⟩]⟩ := by
  by_cases hshort : n < w.pos + (walkQuery p b).length.toNat
  · rw [walkTurn, if_pos hshort] at h
    cases h
  · rw [walkTurn, if_neg hshort] at h
    exact ⟨Nat.le_of_not_lt hshort, (Option.some.inj h).symm⟩

/-- D22: a turn moves forward by 1 to 3 bytes, not past the end, and adds one line to the trace. -/
theorem walkTurn_advances {n : Nat} {b : Byte} {w w' : WalkState} (h : walkTurn n p hints b w = some w') :
    w.pos < w'.pos ∧ w'.pos ≤ w.pos + 3 ∧ w'.pos ≤ n ∧ w'.trace.length = w.trace.length + 1 := by
  obtain ⟨hpos, hle⟩ := walkQuery_length_bounds p b
  obtain ⟨henough, rfl⟩ := walkTurn_cases h
  exact ⟨Nat.lt_add_of_pos_right hpos, Nat.add_le_add_left hle _, henough, List.length_append⟩

/-- With a turn left for every byte ahead, a loop that is not refused stops at the end of the bytes. -/
theorem walkLoop_pos_eq_length {bytes : List Byte} {fuel : Nat} {w w' : WalkState} (hin : w.pos ≤ bytes.length)
    (hfuel : bytes.length ≤ w.pos + fuel) (h : walkLoop bytes p hints fuel w = some w') :
    w'.pos = bytes.length := by
  fun_induction walkLoop with
  | case1 w =>
    cases h
    exact Nat.le_antisymm hin hfuel
  | case2 fuel w hend =>
    cases h
    exact Nat.le_antisymm hin (List.getElem?_eq_none_iff.mp hend)
  | case3 => cases h
  | case4 fuel w b _ next hturn ih =>
    obtain ⟨hforward, _, hin', _⟩ := walkTurn_advances hturn
    exact ih hin' (by omega) h

end Sys2Proof.Machine
end

section
/-! The statements of families 60_exceptions and 70_reset_and_hazards: which steps stop, the reset state, and the walk of
the reference host. -/

namespace Sys2Proof.Machine

/-- A PEN query is refused for the reason unit PEN gives. -/
theorem queryCost_refused {s : State} {r : Refusal}
    (h : penUnit s.penMnemonic s.penMode s.penCycles s.penPageRelation = .error r) : queryCost s = .refused r := by
  rw [queryCost, h]

/-- A PEN query goes on exactly in the calculator's domain (R64, R108). -/
theorem continues_iff_penInputsAreValues {s : State} (hq : s.query = .cost) :
    Continues s ↔ PenInputsAreValues s := by
  refine ⟨fun ⟨t, ht⟩ => ?_, continues_of_penInputsAreValues⟩
  obtain ⟨m, a, hm, ha, _⟩ := queryCost_cases ((step_cost hq).symm.trans ht)
  exact ⟨Option.isSome_of_eq_some hm, Option.isSome_of_eq_some ha⟩

/-- Settles O47: the type of faults is empty, an opcode query is an evaluation, and a PEN query is refused where unit PEN
has no answer. -/
theorem onlyNonValuesAtPenAreRefused : Obligations.OnlyNonValuesAtPenAreRefused := by
  unfold Obligations.OnlyNonValuesAtPenAreRefused
  intro s
  refine ⟨nofun, fun hq => ⟨_, step_eq_evaluated hq⟩, continues_iff_penInputsAreValues, ?_, ?_⟩
  · exact fun hq hm => (step_cost hq).trans (queryCost_refused (penUnit_not_mnemonic hm))
  · exact fun hq hm ha => (step_cost hq).trans (queryCost_refused (penUnit_not_mode hm ha))

/-- Settles O59: every turn moves forward and stays within the bytes, so one turn a byte reaches their end. -/
theorem referenceHostReachesTheEnd : Obligations.ReferenceHostReachesTheEnd := by
  unfold Obligations.ReferenceHostReachesTheEnd
  refine ⟨fun n p hints b w w' => walkTurn_advances, fun bytes p hints w h => ?_⟩
  exact walkLoop_pos_eq_length (Nat.zero_le _) (Nat.le_add_left _ _) h

/-- Settles O49: the outputs at reset are the decode of byte 0 under `STANDARD`, which is BRK's entry, and the
calculator's result for `ADC` in the mode `Absolute`, whose codes are 0, at 0 cycles. -/
theorem resetPortsAreSettled : Obligations.ResetPortsAreSettled := by
  unfold Obligations.ResetPortsAreSettled
  have hdec : asInstruction 0 .STANDARD = ⟨0, .BRK, .Implied, 1, 7, .STANDARD⟩ := asInstruction_decoded rfl
  have hpen : penOutput 0 0 0 .SAME = 0 := penOutput_code .ADC .Absolute 0 .SAME
  exact ⟨⟨hdec.symm, hpen.symm⟩, rfl, rfl, rfl, rfl, rfl, rfl, rfl, rfl⟩

end Sys2Proof.Machine
end
